-- ==== Sys2Proof/Word.lean ====
section
/-! DEFINITION. The two widths of the rustgba CORE and the vocabulary its instruction fields name:
registers, pairs, conditions, ALU and rotate operations. Nothing here computes anything. -/

namespace Sys2Proof

/-- The addressable unit and the width of a general register (`BYTE`, `XLEN8` of 00_scope.md section 4). -/
abbrev Byte := BitVec 8

/-- The width of SP, PC, a register pair and a bus address (`XLEN16`, `ADDR_BITS`). -/
abbrev Word := BitVec 16

/-- The seven general registers (R10). F is no member: no register field names it (R15). -/
inductive Reg8 where
  | b | c | d | e | h | l | a
deriving DecidableEq, Repr

/-- What a 3-bit register-select field denotes (R78): a register, or the byte of memory at HL. -/
inductive Operand8 where
  | reg (r : Reg8)
  | atHL
deriving DecidableEq, Repr

/-- The pair field `rp` (R79). -/
inductive Pair where
  | bc | de | hl | sp
deriving DecidableEq, Repr

/-- The pair field `rp2` of PUSH and POP (R80). -/
inductive StackPair where
  | bc | de | hl | af
deriving DecidableEq, Repr

/-- The condition field `cc` (R81). -/
inductive Cond where
  | nz | z | nc | c
deriving DecidableEq, Repr

/-- The field `alu` (R82). -/
inductive Alu where
  | add | adc | sub | sbc | and | xor | or | cp
deriving DecidableEq, Repr

/-- The field `rot` (R82). -/
inductive Rot where
  | rlc | rrc | rl | rr | sla | sra | swap | srl
deriving DecidableEq, Repr

/-- The eleven code points that select no instruction (R86). -/
inductive IllegalCode where
  | d3 | db | dd | e3 | e4 | eb | ec | ed | f4 | fc | fd
deriving DecidableEq, Repr

/-- A 3-bit index: the bit number `b` of BIT, RES and SET (R82), and the `y` of RST (R83). -/
abbrev Index8 := Fin 8

end Sys2Proof
end

