-- ==== Sys2Proof/Config.lean ====
section
/-! DEFINITION. The parameters of 00_scope.md section 4 that carry a value. `REGIONS` is left open by the spec
(92_eei_decisions.md D5, D21): it is the field `bus` of State. The CORE leaves no value undefined, so there is
no free value here. -/

namespace Sys2Proof.Config

/-- `PC_RESET` (R31, R300). -/
def pcReset : Word := 0x0000#16

/-- `SP_RESET` (R31, R300; 92_eei_decisions.md D6 keeps the source's literal). -/
def spReset : Word := 0xEDFF#16

/-- `PREFIX_BYTE` (R74). -/
def prefixByte : Byte := 0xCB#8

/-- The opcode of DI, which `step` compares against (R303). -/
def diOpcode : Byte := 0xF3#8

/-- `UNMAPPED_READ` (R44): what a read that no readable region answers returns. -/
def unmappedRead : Byte := 0x00#8

/-- `REGION_DEFAULT_PERM` (R42): both permission bits of a newly added region. -/
def regionDefaultPerm : Bool := true

/-- The page base of the LDH forms (R75, R111 to R114). -/
def highPage : Word := 0xFF00#16

/-- The cost `step` reports when the Engine is not running (R303), in T-cycles. -/
def idleCycles : Nat := 4

/-- The cost of the host operation `interrupt(v)` (R286), in T-cycles. -/
def interruptCycles : Nat := 20

end Sys2Proof.Config
end

