-- ==== Sys2Proof/Machine/State.lean ====
section
/-! DEFINITION. The state of the CORE, as plain data: the registers of R10 and R12, SP and PC, the control items of R27 to R29, and
the Bus's ordered region list (R41). "The state of the CORE is exactly" this (10_state.md). The reasons a step can stop, and the
state after construction, stand here too. -/

namespace Sys2Proof.Machine

/-- The execution state of the Engine (R29). It is no privilege level (R288). -/
inductive Mode where
  | running
  | halted
  | stopped
  | locked
deriving DecidableEq, Repr

/-- The storage of F: its top nibble only (R12), bits 7 to 4 being Z, N, H and C (R16). The byte F is a view of it. -/
structure Flags where
  z : Bool
  n : Bool
  h : Bool
  c : Bool
deriving DecidableEq, Repr

/-- A block of stored bytes: (local offset, byte) pairs, offsets strictly rising, bytes equal to `unlistedByte` left out. -/
abbrev Memory := List Host.Cell

/-- A Memory Region (R40): both bounds inclusive. `storage` is keyed by the local offset `addr - first`. -/
structure Region where
  first : Word
  last : Word
  storage : Memory
  readable : Bool
  writable : Bool
deriving DecidableEq, Repr

/-- Everything the spec gives the machine. -/
structure State where
  a : Byte
  b : Byte
  c : Byte
  d : Byte
  e : Byte
  h : Byte
  l : Byte
  flags : Flags
  sp : Word
  pc : Word
  ime : Bool
  eiPending : Bool
  mode : Mode
  bus : List Region
deriving DecidableEq, Repr

/-- No step of the CORE ends in a fault, so this type has no constructor. Its one synchronous exception, IllegalOpcode, has an
effect the spec describes (R280: mode becomes Locked) and is taken as a next state; every other access or operation is defined
(R46, R281). -/
inductive Fault where
deriving DecidableEq, Repr

/-- Why a step has no meaning. -/
inductive Refusal where
  /-- Raised by an arm of `exec` whose instruction has no meaning yet; safe, since nothing can be proved of a run past it.
  Every arm has its meaning, so none raises it. -/
  | notModelled (mnemonic : String)
deriving DecidableEq, Repr

/-- The outcome of a meaning and of a step. -/
abbrev Result := Host.Outcome State Fault Refusal

/-- The CORE right after construction: the Engine of R31 and R300 on a Bus with no region (R301). -/
def State.reset : State where
  a := 0
  b := 0
  c := 0
  d := 0
  e := 0
  h := 0
  l := 0
  flags := ⟨false, false, false, false⟩
  sp := Config.spReset
  pc := Config.pcReset
  ime := false
  eiPending := false
  mode := .running
  bus := []

end Sys2Proof.Machine
end

