-- ==== Sys2Proof/Machine/Flags.lean ====
section
/-! DEFINITION. Every flag computation: the arithmetic laws of R162, the INC, DEC, DAA and 16-bit laws, the logic flags, and the
eight rotate and shift functions of 45_rotates_shifts.md. Each takes operand values and gives a result with the flags. -/

namespace Sys2Proof.Machine

/-- `v & 0x0F`, as a number. -/
def lowNibble (v : Byte) : Nat := (v &&& 0x0F#8).toNat

/-- `add8(a, v, c)` (R162). -/
def add8 (a v : Byte) (c : Bool) : Byte × Flags :=
  let sum := a.toNat + v.toNat + c.toNat
  let res : Byte := BitVec.ofNat 8 sum
  (res, { z := decide (res = 0), n := false,
          h := decide (lowNibble a + lowNibble v + c.toNat > 0x0F), c := decide (sum > 0xFF) })

/-- `sub8(a, v, c)` (R162). -/
def sub8 (a v : Byte) (c : Bool) : Byte × Flags :=
  let d : Int := (a.toNat : Int) - v.toNat - c.toNat
  let res : Byte := BitVec.ofInt 8 d
  (res, { z := decide (res = 0), n := true,
          h := decide ((lowNibble a : Int) - lowNibble v - c.toNat < 0), c := decide (d < 0) })

/-- The increment of R155: C is kept. -/
def inc8 (v : Byte) (f : Flags) : Byte × Flags :=
  let res := v + 1
  (res, { f with z := decide (res = 0), n := false, h := decide (v &&& 0x0F#8 = 0x0F#8) })

/-- The decrement of R157: C is kept. -/
def dec8 (v : Byte) (f : Flags) : Byte × Flags :=
  let res := v - 1
  (res, { f with z := decide (res = 0), n := true, h := decide (v &&& 0x0F#8 = 0x00#8) })

/-- DAA (R159). Both tests of the addition branch look at A before any adjustment. -/
def daa8 (a : Byte) (f : Flags) : Byte × Flags :=
  if f.n then
    let adj : Byte := (if f.h then 0x06#8 else 0#8) + (if f.c then 0x60#8 else 0#8)
    let res := a - adj
    (res, { f with z := decide (res = 0), h := false })
  else
    let high := f.c || decide (a.toNat > 0x99)
    let adj : Byte := (if f.h || decide (lowNibble a > 0x09) then 0x06#8 else 0#8) + (if high then 0x60#8 else 0#8)
    let res := a + adj
    (res, { f with z := decide (res = 0), h := false, c := high })

/-- The addition of R170: H is the carry out of bit 11, C out of bit 15, Z is kept. -/
def add16 (a v : Word) (f : Flags) : Word × Flags :=
  (a + v, { f with n := false,
                   h := decide ((a &&& 0x0FFF#16).toNat + (v &&& 0x0FFF#16).toNat > 0x0FFF),
                   c := decide (a.toNat + v.toNat > 0xFFFF) })

/-- The flags of `SP + e8` (R133, R173): the carries of the unsigned addition of SP's low byte and `e`. -/
def spOffsetFlags (sp : Word) (e : Byte) : Flags :=
  { z := false, n := false,
    h := decide ((sp &&& 0x000F#16).toNat + lowNibble e > 0x0F),
    c := decide ((sp &&& 0x00FF#16).toNat + e.toNat > 0xFF) }

/-- The flags of AND (R180), with `half` true, and of XOR and OR (R183, R186), with `half` false. -/
def logicFlags (res : Byte) (half : Bool) : Flags := { z := decide (res = 0), n := false, h := half, c := false }

/-- The flags of BIT (R190): C is kept. -/
def bitFlags (v : Byte) (i : Fin 8) (f : Flags) : Flags := { f with z := !v.getLsbD i.val, n := false, h := true }

/-- The flags of the extended rotates and shifts (45_rotates_shifts.md section 2). -/
def rotFlags (res : Byte) (cout : Bool) : Flags := { z := decide (res = 0), n := false, h := false, c := cout }

/-- The flags of the accumulator rotates (R200 to R203): Z is cleared. -/
def accRotFlags (cout : Bool) : Flags := { z := false, n := false, h := false, c := cout }

/-- A carry as bit 0 of a byte. -/
def carryBit (c : Bool) : Byte := if c then 1#8 else 0#8

/-- `rlc(v)`. -/
def rlc8 (v : Byte) : Byte × Bool := ((v <<< 1) ||| carryBit (v.getLsbD 7), v.getLsbD 7)

/-- `rrc(v)`. -/
def rrc8 (v : Byte) : Byte × Bool := ((v >>> 1) ||| (carryBit (v.getLsbD 0) <<< 7), v.getLsbD 0)

/-- `rl(v, c)`. -/
def rl8 (v : Byte) (c : Bool) : Byte × Bool := ((v <<< 1) ||| carryBit c, v.getLsbD 7)

/-- `rr(v, c)`. -/
def rr8 (v : Byte) (c : Bool) : Byte × Bool := ((v >>> 1) ||| (carryBit c <<< 7), v.getLsbD 0)

/-- `sla(v)`. -/
def sla8 (v : Byte) : Byte × Bool := (v <<< 1, v.getLsbD 7)

/-- `sra(v)`. -/
def sra8 (v : Byte) : Byte × Bool := ((v >>> 1) ||| (v &&& 0x80#8), v.getLsbD 0)

/-- `swap(v)`. -/
def swap8 (v : Byte) : Byte × Bool := ((v <<< 4) ||| (v >>> 4), false)

/-- `srl(v)`. -/
def srl8 (v : Byte) : Byte × Bool := (v >>> 1, v.getLsbD 0)

/-- The rotate or shift that the field `rot` selects (R82), with the incoming carry. -/
def rotate8 (k : Rot) (v : Byte) (c : Bool) : Byte × Bool :=
  match k with
  | .rlc => rlc8 v
  | .rrc => rrc8 v
  | .rl => rl8 v c
  | .rr => rr8 v c
  | .sla => sla8 v
  | .sra => sra8 v
  | .swap => swap8 v
  | .srl => srl8 v

end Sys2Proof.Machine
end

