-- ==== Sys2Proof/Syntax.lean ====
section
/-! DEFINITION. The instructions: ONE constructor per row of spec/opcode_table.json (512 rows: 500 instructions, the prefix,
the eleven illegal code points of R266). A constructor is named after its row: `at` stands for the parentheses that mean "the
byte in memory at" (R89), `atHLinc` and `atHLdec` for `(HL+)` and `(HL-)`. Operand bytes d8, a8 and e8 are arguments of type Byte
and d16, a16 arguments of type Word, raw as they stand in the instruction stream (R75, R76). The rows with operand bytes come
first, then the others, each group in the table's order: compiled Lean gives a constructor with arguments a tag below 245. -/

namespace Sys2Proof

/-- The instruction set (R84, R85). Each docstring gives the assembler form, the opcode bytes and the rule of its meaning. -/
inductive Instr where
  /-- `LD BC,d16`: 01 (R130). -/
  | ld_BC_d16 (w : Word)
  /-- `LD B,d8`: 06 (R101). -/
  | ld_B_d8 (n : Byte)
  /-- `LD (a16),SP`: 08 (R131). -/
  | ld_atA16_SP (addr : Word)
  /-- `LD C,d8`: 0E (R101). -/
  | ld_C_d8 (n : Byte)
  /-- `STOP`: 10 (R262). -/
  | stop (n : Byte)
  /-- `LD DE,d16`: 11 (R130). -/
  | ld_DE_d16 (w : Word)
  /-- `LD D,d8`: 16 (R101). -/
  | ld_D_d8 (n : Byte)
  /-- `JR e8`: 18 (R233). -/
  | jr_e8 (e : Byte)
  /-- `LD E,d8`: 1E (R101). -/
  | ld_E_d8 (n : Byte)
  /-- `JR NZ,e8`: 20 (R234). -/
  | jr_NZ_e8 (e : Byte)
  /-- `LD HL,d16`: 21 (R130). -/
  | ld_HL_d16 (w : Word)
  /-- `LD H,d8`: 26 (R101). -/
  | ld_H_d8 (n : Byte)
  /-- `JR Z,e8`: 28 (R234). -/
  | jr_Z_e8 (e : Byte)
  /-- `LD L,d8`: 2E (R101). -/
  | ld_L_d8 (n : Byte)
  /-- `JR NC,e8`: 30 (R234). -/
  | jr_NC_e8 (e : Byte)
  /-- `LD SP,d16`: 31 (R130). -/
  | ld_SP_d16 (w : Word)
  /-- `LD (HL),d8`: 36 (R104). -/
  | ld_atHL_d8 (n : Byte)
  /-- `JR C,e8`: 38 (R234). -/
  | jr_C_e8 (e : Byte)
  /-- `LD A,d8`: 3E (R101). -/
  | ld_A_d8 (n : Byte)
  /-- `JP NZ,a16`: C2 (R231). -/
  | jp_NZ_a16 (addr : Word)
  /-- `JP a16`: C3 (R230). -/
  | jp_a16 (addr : Word)
  /-- `CALL NZ,a16`: C4 (R236). -/
  | call_NZ_a16 (addr : Word)
  /-- `ADD A,d8`: C6 (R142). -/
  | add_A_d8 (n : Byte)
  /-- `JP Z,a16`: CA (R231). -/
  | jp_Z_a16 (addr : Word)
  /-- `CALL Z,a16`: CC (R236). -/
  | call_Z_a16 (addr : Word)
  /-- `CALL a16`: CD (R235). -/
  | call_a16 (addr : Word)
  /-- `ADC A,d8`: CE (R145). -/
  | adc_A_d8 (n : Byte)
  /-- `JP NC,a16`: D2 (R231). -/
  | jp_NC_a16 (addr : Word)
  /-- `CALL NC,a16`: D4 (R236). -/
  | call_NC_a16 (addr : Word)
  /-- `SUB A,d8`: D6 (R148). -/
  | sub_A_d8 (n : Byte)
  /-- `JP C,a16`: DA (R231). -/
  | jp_C_a16 (addr : Word)
  /-- `CALL C,a16`: DC (R236). -/
  | call_C_a16 (addr : Word)
  /-- `SBC A,d8`: DE (R151). -/
  | sbc_A_d8 (n : Byte)
  /-- `LDH (a8),A`: E0 (R114). -/
  | ldh_atA8_A (n : Byte)
  /-- `AND A,d8`: E6 (R182). -/
  | and_A_d8 (n : Byte)
  /-- `ADD SP,e8`: E8 (R173). -/
  | add_SP_e8 (e : Byte)
  /-- `LD (a16),A`: EA (R110). -/
  | ld_atA16_A (addr : Word)
  /-- `XOR A,d8`: EE (R185). -/
  | xor_A_d8 (n : Byte)
  /-- `LDH A,(a8)`: F0 (R113). -/
  | ldh_A_atA8 (n : Byte)
  /-- `OR A,d8`: F6 (R188). -/
  | or_A_d8 (n : Byte)
  /-- `LD HL,SP+e8`: F8 (R133). -/
  | ld_HL_SPe8 (e : Byte)
  /-- `LD A,(a16)`: FA (R109). -/
  | ld_A_atA16 (addr : Word)
  /-- `CP A,d8`: FE (R154). -/
  | cp_A_d8 (n : Byte)
  /-- `NOP`: 00 (R260). -/
  | nop
  /-- `LD (BC),A`: 02 (R107). -/
  | ld_atBC_A
  /-- `INC BC`: 03 (R171). -/
  | inc_BC
  /-- `INC B`: 04 (R155). -/
  | inc_B
  /-- `DEC B`: 05 (R157). -/
  | dec_B
  /-- `RLCA`: 07 (R200). -/
  | rlca
  /-- `ADD HL,BC`: 09 (R170). -/
  | add_HL_BC
  /-- `LD A,(BC)`: 0A (R105). -/
  | ld_A_atBC
  /-- `DEC BC`: 0B (R172). -/
  | dec_BC
  /-- `INC C`: 0C (R155). -/
  | inc_C
  /-- `DEC C`: 0D (R157). -/
  | dec_C
  /-- `RRCA`: 0F (R201). -/
  | rrca
  /-- `LD (DE),A`: 12 (R108). -/
  | ld_atDE_A
  /-- `INC DE`: 13 (R171). -/
  | inc_DE
  /-- `INC D`: 14 (R155). -/
  | inc_D
  /-- `DEC D`: 15 (R157). -/
  | dec_D
  /-- `RLA`: 17 (R202). -/
  | rla
  /-- `ADD HL,DE`: 19 (R170). -/
  | add_HL_DE
  /-- `LD A,(DE)`: 1A (R106). -/
  | ld_A_atDE
  /-- `DEC DE`: 1B (R172). -/
  | dec_DE
  /-- `INC E`: 1C (R155). -/
  | inc_E
  /-- `DEC E`: 1D (R157). -/
  | dec_E
  /-- `RRA`: 1F (R203). -/
  | rra
  /-- `LD (HL+),A`: 22 (R115). -/
  | ld_atHLinc_A
  /-- `INC HL`: 23 (R171). -/
  | inc_HL
  /-- `INC H`: 24 (R155). -/
  | inc_H
  /-- `DEC H`: 25 (R157). -/
  | dec_H
  /-- `DAA`: 27 (R159). -/
  | daa
  /-- `ADD HL,HL`: 29 (R170). -/
  | add_HL_HL
  /-- `LD A,(HL+)`: 2A (R116). -/
  | ld_A_atHLinc
  /-- `DEC HL`: 2B (R172). -/
  | dec_HL
  /-- `INC L`: 2C (R155). -/
  | inc_L
  /-- `DEC L`: 2D (R157). -/
  | dec_L
  /-- `CPL`: 2F (R189). -/
  | cpl
  /-- `LD (HL-),A`: 32 (R117). -/
  | ld_atHLdec_A
  /-- `INC SP`: 33 (R171). -/
  | inc_SP
  /-- `INC (HL)`: 34 (R156). -/
  | inc_atHL
  /-- `DEC (HL)`: 35 (R158). -/
  | dec_atHL
  /-- `SCF`: 37 (R160). -/
  | scf
  /-- `ADD HL,SP`: 39 (R170). -/
  | add_HL_SP
  /-- `LD A,(HL-)`: 3A (R118). -/
  | ld_A_atHLdec
  /-- `DEC SP`: 3B (R172). -/
  | dec_SP
  /-- `INC A`: 3C (R155). -/
  | inc_A
  /-- `DEC A`: 3D (R157). -/
  | dec_A
  /-- `CCF`: 3F (R161). -/
  | ccf
  /-- `LD B,B`: 40 (R100). -/
  | ld_B_B
  /-- `LD B,C`: 41 (R100). -/
  | ld_B_C
  /-- `LD B,D`: 42 (R100). -/
  | ld_B_D
  /-- `LD B,E`: 43 (R100). -/
  | ld_B_E
  /-- `LD B,H`: 44 (R100). -/
  | ld_B_H
  /-- `LD B,L`: 45 (R100). -/
  | ld_B_L
  /-- `LD B,(HL)`: 46 (R102). -/
  | ld_B_atHL
  /-- `LD B,A`: 47 (R100). -/
  | ld_B_A
  /-- `LD C,B`: 48 (R100). -/
  | ld_C_B
  /-- `LD C,C`: 49 (R100). -/
  | ld_C_C
  /-- `LD C,D`: 4A (R100). -/
  | ld_C_D
  /-- `LD C,E`: 4B (R100). -/
  | ld_C_E
  /-- `LD C,H`: 4C (R100). -/
  | ld_C_H
  /-- `LD C,L`: 4D (R100). -/
  | ld_C_L
  /-- `LD C,(HL)`: 4E (R102). -/
  | ld_C_atHL
  /-- `LD C,A`: 4F (R100). -/
  | ld_C_A
  /-- `LD D,B`: 50 (R100). -/
  | ld_D_B
  /-- `LD D,C`: 51 (R100). -/
  | ld_D_C
  /-- `LD D,D`: 52 (R100). -/
  | ld_D_D
  /-- `LD D,E`: 53 (R100). -/
  | ld_D_E
  /-- `LD D,H`: 54 (R100). -/
  | ld_D_H
  /-- `LD D,L`: 55 (R100). -/
  | ld_D_L
  /-- `LD D,(HL)`: 56 (R102). -/
  | ld_D_atHL
  /-- `LD D,A`: 57 (R100). -/
  | ld_D_A
  /-- `LD E,B`: 58 (R100). -/
  | ld_E_B
  /-- `LD E,C`: 59 (R100). -/
  | ld_E_C
  /-- `LD E,D`: 5A (R100). -/
  | ld_E_D
  /-- `LD E,E`: 5B (R100). -/
  | ld_E_E
  /-- `LD E,H`: 5C (R100). -/
  | ld_E_H
  /-- `LD E,L`: 5D (R100). -/
  | ld_E_L
  /-- `LD E,(HL)`: 5E (R102). -/
  | ld_E_atHL
  /-- `LD E,A`: 5F (R100). -/
  | ld_E_A
  /-- `LD H,B`: 60 (R100). -/
  | ld_H_B
  /-- `LD H,C`: 61 (R100). -/
  | ld_H_C
  /-- `LD H,D`: 62 (R100). -/
  | ld_H_D
  /-- `LD H,E`: 63 (R100). -/
  | ld_H_E
  /-- `LD H,H`: 64 (R100). -/
  | ld_H_H
  /-- `LD H,L`: 65 (R100). -/
  | ld_H_L
  /-- `LD H,(HL)`: 66 (R102). -/
  | ld_H_atHL
  /-- `LD H,A`: 67 (R100). -/
  | ld_H_A
  /-- `LD L,B`: 68 (R100). -/
  | ld_L_B
  /-- `LD L,C`: 69 (R100). -/
  | ld_L_C
  /-- `LD L,D`: 6A (R100). -/
  | ld_L_D
  /-- `LD L,E`: 6B (R100). -/
  | ld_L_E
  /-- `LD L,H`: 6C (R100). -/
  | ld_L_H
  /-- `LD L,L`: 6D (R100). -/
  | ld_L_L
  /-- `LD L,(HL)`: 6E (R102). -/
  | ld_L_atHL
  /-- `LD L,A`: 6F (R100). -/
  | ld_L_A
  /-- `LD (HL),B`: 70 (R103). -/
  | ld_atHL_B
  /-- `LD (HL),C`: 71 (R103). -/
  | ld_atHL_C
  /-- `LD (HL),D`: 72 (R103). -/
  | ld_atHL_D
  /-- `LD (HL),E`: 73 (R103). -/
  | ld_atHL_E
  /-- `LD (HL),H`: 74 (R103). -/
  | ld_atHL_H
  /-- `LD (HL),L`: 75 (R103). -/
  | ld_atHL_L
  /-- `HALT`: 76 (R261). -/
  | halt
  /-- `LD (HL),A`: 77 (R103). -/
  | ld_atHL_A
  /-- `LD A,B`: 78 (R100). -/
  | ld_A_B
  /-- `LD A,C`: 79 (R100). -/
  | ld_A_C
  /-- `LD A,D`: 7A (R100). -/
  | ld_A_D
  /-- `LD A,E`: 7B (R100). -/
  | ld_A_E
  /-- `LD A,H`: 7C (R100). -/
  | ld_A_H
  /-- `LD A,L`: 7D (R100). -/
  | ld_A_L
  /-- `LD A,(HL)`: 7E (R102). -/
  | ld_A_atHL
  /-- `LD A,A`: 7F (R100). -/
  | ld_A_A
  /-- `ADD A,B`: 80 (R140). -/
  | add_A_B
  /-- `ADD A,C`: 81 (R140). -/
  | add_A_C
  /-- `ADD A,D`: 82 (R140). -/
  | add_A_D
  /-- `ADD A,E`: 83 (R140). -/
  | add_A_E
  /-- `ADD A,H`: 84 (R140). -/
  | add_A_H
  /-- `ADD A,L`: 85 (R140). -/
  | add_A_L
  /-- `ADD A,(HL)`: 86 (R141). -/
  | add_A_atHL
  /-- `ADD A,A`: 87 (R140). -/
  | add_A_A
  /-- `ADC A,B`: 88 (R143). -/
  | adc_A_B
  /-- `ADC A,C`: 89 (R143). -/
  | adc_A_C
  /-- `ADC A,D`: 8A (R143). -/
  | adc_A_D
  /-- `ADC A,E`: 8B (R143). -/
  | adc_A_E
  /-- `ADC A,H`: 8C (R143). -/
  | adc_A_H
  /-- `ADC A,L`: 8D (R143). -/
  | adc_A_L
  /-- `ADC A,(HL)`: 8E (R144). -/
  | adc_A_atHL
  /-- `ADC A,A`: 8F (R143). -/
  | adc_A_A
  /-- `SUB A,B`: 90 (R146). -/
  | sub_A_B
  /-- `SUB A,C`: 91 (R146). -/
  | sub_A_C
  /-- `SUB A,D`: 92 (R146). -/
  | sub_A_D
  /-- `SUB A,E`: 93 (R146). -/
  | sub_A_E
  /-- `SUB A,H`: 94 (R146). -/
  | sub_A_H
  /-- `SUB A,L`: 95 (R146). -/
  | sub_A_L
  /-- `SUB A,(HL)`: 96 (R147). -/
  | sub_A_atHL
  /-- `SUB A,A`: 97 (R146). -/
  | sub_A_A
  /-- `SBC A,B`: 98 (R149). -/
  | sbc_A_B
  /-- `SBC A,C`: 99 (R149). -/
  | sbc_A_C
  /-- `SBC A,D`: 9A (R149). -/
  | sbc_A_D
  /-- `SBC A,E`: 9B (R149). -/
  | sbc_A_E
  /-- `SBC A,H`: 9C (R149). -/
  | sbc_A_H
  /-- `SBC A,L`: 9D (R149). -/
  | sbc_A_L
  /-- `SBC A,(HL)`: 9E (R150). -/
  | sbc_A_atHL
  /-- `SBC A,A`: 9F (R149). -/
  | sbc_A_A
  /-- `AND A,B`: A0 (R180). -/
  | and_A_B
  /-- `AND A,C`: A1 (R180). -/
  | and_A_C
  /-- `AND A,D`: A2 (R180). -/
  | and_A_D
  /-- `AND A,E`: A3 (R180). -/
  | and_A_E
  /-- `AND A,H`: A4 (R180). -/
  | and_A_H
  /-- `AND A,L`: A5 (R180). -/
  | and_A_L
  /-- `AND A,(HL)`: A6 (R181). -/
  | and_A_atHL
  /-- `AND A,A`: A7 (R180). -/
  | and_A_A
  /-- `XOR A,B`: A8 (R183). -/
  | xor_A_B
  /-- `XOR A,C`: A9 (R183). -/
  | xor_A_C
  /-- `XOR A,D`: AA (R183). -/
  | xor_A_D
  /-- `XOR A,E`: AB (R183). -/
  | xor_A_E
  /-- `XOR A,H`: AC (R183). -/
  | xor_A_H
  /-- `XOR A,L`: AD (R183). -/
  | xor_A_L
  /-- `XOR A,(HL)`: AE (R184). -/
  | xor_A_atHL
  /-- `XOR A,A`: AF (R183). -/
  | xor_A_A
  /-- `OR A,B`: B0 (R186). -/
  | or_A_B
  /-- `OR A,C`: B1 (R186). -/
  | or_A_C
  /-- `OR A,D`: B2 (R186). -/
  | or_A_D
  /-- `OR A,E`: B3 (R186). -/
  | or_A_E
  /-- `OR A,H`: B4 (R186). -/
  | or_A_H
  /-- `OR A,L`: B5 (R186). -/
  | or_A_L
  /-- `OR A,(HL)`: B6 (R187). -/
  | or_A_atHL
  /-- `OR A,A`: B7 (R186). -/
  | or_A_A
  /-- `CP A,B`: B8 (R152). -/
  | cp_A_B
  /-- `CP A,C`: B9 (R152). -/
  | cp_A_C
  /-- `CP A,D`: BA (R152). -/
  | cp_A_D
  /-- `CP A,E`: BB (R152). -/
  | cp_A_E
  /-- `CP A,H`: BC (R152). -/
  | cp_A_H
  /-- `CP A,L`: BD (R152). -/
  | cp_A_L
  /-- `CP A,(HL)`: BE (R153). -/
  | cp_A_atHL
  /-- `CP A,A`: BF (R152). -/
  | cp_A_A
  /-- `RET NZ`: C0 (R238). -/
  | ret_NZ
  /-- `POP BC`: C1 (R256). -/
  | pop_BC
  /-- `PUSH BC`: C5 (R254). -/
  | push_BC
  /-- `RST 0x00`: C7 (R240). -/
  | rst_00
  /-- `RET Z`: C8 (R238). -/
  | ret_Z
  /-- `RET`: C9 (R237). -/
  | ret
  /-- `PREFIX CB`: CB (R265). -/
  | prefix_CB
  /-- `RST 0x08`: CF (R240). -/
  | rst_08
  /-- `RET NC`: D0 (R238). -/
  | ret_NC
  /-- `POP DE`: D1 (R256). -/
  | pop_DE
  /-- `ILLEGAL D3`: D3 (R266). -/
  | illegal_D3
  /-- `PUSH DE`: D5 (R254). -/
  | push_DE
  /-- `RST 0x10`: D7 (R240). -/
  | rst_10
  /-- `RET C`: D8 (R238). -/
  | ret_C
  /-- `RETI`: D9 (R239). -/
  | reti
  /-- `ILLEGAL DB`: DB (R266). -/
  | illegal_DB
  /-- `ILLEGAL DD`: DD (R266). -/
  | illegal_DD
  /-- `RST 0x18`: DF (R240). -/
  | rst_18
  /-- `POP HL`: E1 (R256). -/
  | pop_HL
  /-- `LDH (C),A`: E2 (R112). -/
  | ldh_atC_A
  /-- `ILLEGAL E3`: E3 (R266). -/
  | illegal_E3
  /-- `ILLEGAL E4`: E4 (R266). -/
  | illegal_E4
  /-- `PUSH HL`: E5 (R254). -/
  | push_HL
  /-- `RST 0x20`: E7 (R240). -/
  | rst_20
  /-- `JP HL`: E9 (R232). -/
  | jp_HL
  /-- `ILLEGAL EB`: EB (R266). -/
  | illegal_EB
  /-- `ILLEGAL EC`: EC (R266). -/
  | illegal_EC
  /-- `ILLEGAL ED`: ED (R266). -/
  | illegal_ED
  /-- `RST 0x28`: EF (R240). -/
  | rst_28
  /-- `POP AF`: F1 (R257). -/
  | pop_AF
  /-- `LDH A,(C)`: F2 (R111). -/
  | ldh_A_atC
  /-- `DI`: F3 (R264). -/
  | di
  /-- `ILLEGAL F4`: F4 (R266). -/
  | illegal_F4
  /-- `PUSH AF`: F5 (R254). -/
  | push_AF
  /-- `RST 0x30`: F7 (R240). -/
  | rst_30
  /-- `LD SP,HL`: F9 (R132). -/
  | ld_SP_HL
  /-- `EI`: FB (R263). -/
  | ei
  /-- `ILLEGAL FC`: FC (R266). -/
  | illegal_FC
  /-- `ILLEGAL FD`: FD (R266). -/
  | illegal_FD
  /-- `RST 0x38`: FF (R240). -/
  | rst_38
  /-- `RLC B`: CB 00 (R204). -/
  | rlc_B
  /-- `RLC C`: CB 01 (R204). -/
  | rlc_C
  /-- `RLC D`: CB 02 (R204). -/
  | rlc_D
  /-- `RLC E`: CB 03 (R204). -/
  | rlc_E
  /-- `RLC H`: CB 04 (R204). -/
  | rlc_H
  /-- `RLC L`: CB 05 (R204). -/
  | rlc_L
  /-- `RLC (HL)`: CB 06 (R205). -/
  | rlc_atHL
  /-- `RLC A`: CB 07 (R204). -/
  | rlc_A
  /-- `RRC B`: CB 08 (R206). -/
  | rrc_B
  /-- `RRC C`: CB 09 (R206). -/
  | rrc_C
  /-- `RRC D`: CB 0A (R206). -/
  | rrc_D
  /-- `RRC E`: CB 0B (R206). -/
  | rrc_E
  /-- `RRC H`: CB 0C (R206). -/
  | rrc_H
  /-- `RRC L`: CB 0D (R206). -/
  | rrc_L
  /-- `RRC (HL)`: CB 0E (R207). -/
  | rrc_atHL
  /-- `RRC A`: CB 0F (R206). -/
  | rrc_A
  /-- `RL B`: CB 10 (R208). -/
  | rl_B
  /-- `RL C`: CB 11 (R208). -/
  | rl_C
  /-- `RL D`: CB 12 (R208). -/
  | rl_D
  /-- `RL E`: CB 13 (R208). -/
  | rl_E
  /-- `RL H`: CB 14 (R208). -/
  | rl_H
  /-- `RL L`: CB 15 (R208). -/
  | rl_L
  /-- `RL (HL)`: CB 16 (R209). -/
  | rl_atHL
  /-- `RL A`: CB 17 (R208). -/
  | rl_A
  /-- `RR B`: CB 18 (R210). -/
  | rr_B
  /-- `RR C`: CB 19 (R210). -/
  | rr_C
  /-- `RR D`: CB 1A (R210). -/
  | rr_D
  /-- `RR E`: CB 1B (R210). -/
  | rr_E
  /-- `RR H`: CB 1C (R210). -/
  | rr_H
  /-- `RR L`: CB 1D (R210). -/
  | rr_L
  /-- `RR (HL)`: CB 1E (R211). -/
  | rr_atHL
  /-- `RR A`: CB 1F (R210). -/
  | rr_A
  /-- `SLA B`: CB 20 (R212). -/
  | sla_B
  /-- `SLA C`: CB 21 (R212). -/
  | sla_C
  /-- `SLA D`: CB 22 (R212). -/
  | sla_D
  /-- `SLA E`: CB 23 (R212). -/
  | sla_E
  /-- `SLA H`: CB 24 (R212). -/
  | sla_H
  /-- `SLA L`: CB 25 (R212). -/
  | sla_L
  /-- `SLA (HL)`: CB 26 (R213). -/
  | sla_atHL
  /-- `SLA A`: CB 27 (R212). -/
  | sla_A
  /-- `SRA B`: CB 28 (R214). -/
  | sra_B
  /-- `SRA C`: CB 29 (R214). -/
  | sra_C
  /-- `SRA D`: CB 2A (R214). -/
  | sra_D
  /-- `SRA E`: CB 2B (R214). -/
  | sra_E
  /-- `SRA H`: CB 2C (R214). -/
  | sra_H
  /-- `SRA L`: CB 2D (R214). -/
  | sra_L
  /-- `SRA (HL)`: CB 2E (R215). -/
  | sra_atHL
  /-- `SRA A`: CB 2F (R214). -/
  | sra_A
  /-- `SWAP B`: CB 30 (R216). -/
  | swap_B
  /-- `SWAP C`: CB 31 (R216). -/
  | swap_C
  /-- `SWAP D`: CB 32 (R216). -/
  | swap_D
  /-- `SWAP E`: CB 33 (R216). -/
  | swap_E
  /-- `SWAP H`: CB 34 (R216). -/
  | swap_H
  /-- `SWAP L`: CB 35 (R216). -/
  | swap_L
  /-- `SWAP (HL)`: CB 36 (R217). -/
  | swap_atHL
  /-- `SWAP A`: CB 37 (R216). -/
  | swap_A
  /-- `SRL B`: CB 38 (R218). -/
  | srl_B
  /-- `SRL C`: CB 39 (R218). -/
  | srl_C
  /-- `SRL D`: CB 3A (R218). -/
  | srl_D
  /-- `SRL E`: CB 3B (R218). -/
  | srl_E
  /-- `SRL H`: CB 3C (R218). -/
  | srl_H
  /-- `SRL L`: CB 3D (R218). -/
  | srl_L
  /-- `SRL (HL)`: CB 3E (R219). -/
  | srl_atHL
  /-- `SRL A`: CB 3F (R218). -/
  | srl_A
  /-- `BIT 0,B`: CB 40 (R190). -/
  | bit_0_B
  /-- `BIT 0,C`: CB 41 (R190). -/
  | bit_0_C
  /-- `BIT 0,D`: CB 42 (R190). -/
  | bit_0_D
  /-- `BIT 0,E`: CB 43 (R190). -/
  | bit_0_E
  /-- `BIT 0,H`: CB 44 (R190). -/
  | bit_0_H
  /-- `BIT 0,L`: CB 45 (R190). -/
  | bit_0_L
  /-- `BIT 0,(HL)`: CB 46 (R191). -/
  | bit_0_atHL
  /-- `BIT 0,A`: CB 47 (R190). -/
  | bit_0_A
  /-- `BIT 1,B`: CB 48 (R190). -/
  | bit_1_B
  /-- `BIT 1,C`: CB 49 (R190). -/
  | bit_1_C
  /-- `BIT 1,D`: CB 4A (R190). -/
  | bit_1_D
  /-- `BIT 1,E`: CB 4B (R190). -/
  | bit_1_E
  /-- `BIT 1,H`: CB 4C (R190). -/
  | bit_1_H
  /-- `BIT 1,L`: CB 4D (R190). -/
  | bit_1_L
  /-- `BIT 1,(HL)`: CB 4E (R191). -/
  | bit_1_atHL
  /-- `BIT 1,A`: CB 4F (R190). -/
  | bit_1_A
  /-- `BIT 2,B`: CB 50 (R190). -/
  | bit_2_B
  /-- `BIT 2,C`: CB 51 (R190). -/
  | bit_2_C
  /-- `BIT 2,D`: CB 52 (R190). -/
  | bit_2_D
  /-- `BIT 2,E`: CB 53 (R190). -/
  | bit_2_E
  /-- `BIT 2,H`: CB 54 (R190). -/
  | bit_2_H
  /-- `BIT 2,L`: CB 55 (R190). -/
  | bit_2_L
  /-- `BIT 2,(HL)`: CB 56 (R191). -/
  | bit_2_atHL
  /-- `BIT 2,A`: CB 57 (R190). -/
  | bit_2_A
  /-- `BIT 3,B`: CB 58 (R190). -/
  | bit_3_B
  /-- `BIT 3,C`: CB 59 (R190). -/
  | bit_3_C
  /-- `BIT 3,D`: CB 5A (R190). -/
  | bit_3_D
  /-- `BIT 3,E`: CB 5B (R190). -/
  | bit_3_E
  /-- `BIT 3,H`: CB 5C (R190). -/
  | bit_3_H
  /-- `BIT 3,L`: CB 5D (R190). -/
  | bit_3_L
  /-- `BIT 3,(HL)`: CB 5E (R191). -/
  | bit_3_atHL
  /-- `BIT 3,A`: CB 5F (R190). -/
  | bit_3_A
  /-- `BIT 4,B`: CB 60 (R190). -/
  | bit_4_B
  /-- `BIT 4,C`: CB 61 (R190). -/
  | bit_4_C
  /-- `BIT 4,D`: CB 62 (R190). -/
  | bit_4_D
  /-- `BIT 4,E`: CB 63 (R190). -/
  | bit_4_E
  /-- `BIT 4,H`: CB 64 (R190). -/
  | bit_4_H
  /-- `BIT 4,L`: CB 65 (R190). -/
  | bit_4_L
  /-- `BIT 4,(HL)`: CB 66 (R191). -/
  | bit_4_atHL
  /-- `BIT 4,A`: CB 67 (R190). -/
  | bit_4_A
  /-- `BIT 5,B`: CB 68 (R190). -/
  | bit_5_B
  /-- `BIT 5,C`: CB 69 (R190). -/
  | bit_5_C
  /-- `BIT 5,D`: CB 6A (R190). -/
  | bit_5_D
  /-- `BIT 5,E`: CB 6B (R190). -/
  | bit_5_E
  /-- `BIT 5,H`: CB 6C (R190). -/
  | bit_5_H
  /-- `BIT 5,L`: CB 6D (R190). -/
  | bit_5_L
  /-- `BIT 5,(HL)`: CB 6E (R191). -/
  | bit_5_atHL
  /-- `BIT 5,A`: CB 6F (R190). -/
  | bit_5_A
  /-- `BIT 6,B`: CB 70 (R190). -/
  | bit_6_B
  /-- `BIT 6,C`: CB 71 (R190). -/
  | bit_6_C
  /-- `BIT 6,D`: CB 72 (R190). -/
  | bit_6_D
  /-- `BIT 6,E`: CB 73 (R190). -/
  | bit_6_E
  /-- `BIT 6,H`: CB 74 (R190). -/
  | bit_6_H
  /-- `BIT 6,L`: CB 75 (R190). -/
  | bit_6_L
  /-- `BIT 6,(HL)`: CB 76 (R191). -/
  | bit_6_atHL
  /-- `BIT 6,A`: CB 77 (R190). -/
  | bit_6_A
  /-- `BIT 7,B`: CB 78 (R190). -/
  | bit_7_B
  /-- `BIT 7,C`: CB 79 (R190). -/
  | bit_7_C
  /-- `BIT 7,D`: CB 7A (R190). -/
  | bit_7_D
  /-- `BIT 7,E`: CB 7B (R190). -/
  | bit_7_E
  /-- `BIT 7,H`: CB 7C (R190). -/
  | bit_7_H
  /-- `BIT 7,L`: CB 7D (R190). -/
  | bit_7_L
  /-- `BIT 7,(HL)`: CB 7E (R191). -/
  | bit_7_atHL
  /-- `BIT 7,A`: CB 7F (R190). -/
  | bit_7_A
  /-- `RES 0,B`: CB 80 (R192). -/
  | res_0_B
  /-- `RES 0,C`: CB 81 (R192). -/
  | res_0_C
  /-- `RES 0,D`: CB 82 (R192). -/
  | res_0_D
  /-- `RES 0,E`: CB 83 (R192). -/
  | res_0_E
  /-- `RES 0,H`: CB 84 (R192). -/
  | res_0_H
  /-- `RES 0,L`: CB 85 (R192). -/
  | res_0_L
  /-- `RES 0,(HL)`: CB 86 (R193). -/
  | res_0_atHL
  /-- `RES 0,A`: CB 87 (R192). -/
  | res_0_A
  /-- `RES 1,B`: CB 88 (R192). -/
  | res_1_B
  /-- `RES 1,C`: CB 89 (R192). -/
  | res_1_C
  /-- `RES 1,D`: CB 8A (R192). -/
  | res_1_D
  /-- `RES 1,E`: CB 8B (R192). -/
  | res_1_E
  /-- `RES 1,H`: CB 8C (R192). -/
  | res_1_H
  /-- `RES 1,L`: CB 8D (R192). -/
  | res_1_L
  /-- `RES 1,(HL)`: CB 8E (R193). -/
  | res_1_atHL
  /-- `RES 1,A`: CB 8F (R192). -/
  | res_1_A
  /-- `RES 2,B`: CB 90 (R192). -/
  | res_2_B
  /-- `RES 2,C`: CB 91 (R192). -/
  | res_2_C
  /-- `RES 2,D`: CB 92 (R192). -/
  | res_2_D
  /-- `RES 2,E`: CB 93 (R192). -/
  | res_2_E
  /-- `RES 2,H`: CB 94 (R192). -/
  | res_2_H
  /-- `RES 2,L`: CB 95 (R192). -/
  | res_2_L
  /-- `RES 2,(HL)`: CB 96 (R193). -/
  | res_2_atHL
  /-- `RES 2,A`: CB 97 (R192). -/
  | res_2_A
  /-- `RES 3,B`: CB 98 (R192). -/
  | res_3_B
  /-- `RES 3,C`: CB 99 (R192). -/
  | res_3_C
  /-- `RES 3,D`: CB 9A (R192). -/
  | res_3_D
  /-- `RES 3,E`: CB 9B (R192). -/
  | res_3_E
  /-- `RES 3,H`: CB 9C (R192). -/
  | res_3_H
  /-- `RES 3,L`: CB 9D (R192). -/
  | res_3_L
  /-- `RES 3,(HL)`: CB 9E (R193). -/
  | res_3_atHL
  /-- `RES 3,A`: CB 9F (R192). -/
  | res_3_A
  /-- `RES 4,B`: CB A0 (R192). -/
  | res_4_B
  /-- `RES 4,C`: CB A1 (R192). -/
  | res_4_C
  /-- `RES 4,D`: CB A2 (R192). -/
  | res_4_D
  /-- `RES 4,E`: CB A3 (R192). -/
  | res_4_E
  /-- `RES 4,H`: CB A4 (R192). -/
  | res_4_H
  /-- `RES 4,L`: CB A5 (R192). -/
  | res_4_L
  /-- `RES 4,(HL)`: CB A6 (R193). -/
  | res_4_atHL
  /-- `RES 4,A`: CB A7 (R192). -/
  | res_4_A
  /-- `RES 5,B`: CB A8 (R192). -/
  | res_5_B
  /-- `RES 5,C`: CB A9 (R192). -/
  | res_5_C
  /-- `RES 5,D`: CB AA (R192). -/
  | res_5_D
  /-- `RES 5,E`: CB AB (R192). -/
  | res_5_E
  /-- `RES 5,H`: CB AC (R192). -/
  | res_5_H
  /-- `RES 5,L`: CB AD (R192). -/
  | res_5_L
  /-- `RES 5,(HL)`: CB AE (R193). -/
  | res_5_atHL
  /-- `RES 5,A`: CB AF (R192). -/
  | res_5_A
  /-- `RES 6,B`: CB B0 (R192). -/
  | res_6_B
  /-- `RES 6,C`: CB B1 (R192). -/
  | res_6_C
  /-- `RES 6,D`: CB B2 (R192). -/
  | res_6_D
  /-- `RES 6,E`: CB B3 (R192). -/
  | res_6_E
  /-- `RES 6,H`: CB B4 (R192). -/
  | res_6_H
  /-- `RES 6,L`: CB B5 (R192). -/
  | res_6_L
  /-- `RES 6,(HL)`: CB B6 (R193). -/
  | res_6_atHL
  /-- `RES 6,A`: CB B7 (R192). -/
  | res_6_A
  /-- `RES 7,B`: CB B8 (R192). -/
  | res_7_B
  /-- `RES 7,C`: CB B9 (R192). -/
  | res_7_C
  /-- `RES 7,D`: CB BA (R192). -/
  | res_7_D
  /-- `RES 7,E`: CB BB (R192). -/
  | res_7_E
  /-- `RES 7,H`: CB BC (R192). -/
  | res_7_H
  /-- `RES 7,L`: CB BD (R192). -/
  | res_7_L
  /-- `RES 7,(HL)`: CB BE (R193). -/
  | res_7_atHL
  /-- `RES 7,A`: CB BF (R192). -/
  | res_7_A
  /-- `SET 0,B`: CB C0 (R194). -/
  | set_0_B
  /-- `SET 0,C`: CB C1 (R194). -/
  | set_0_C
  /-- `SET 0,D`: CB C2 (R194). -/
  | set_0_D
  /-- `SET 0,E`: CB C3 (R194). -/
  | set_0_E
  /-- `SET 0,H`: CB C4 (R194). -/
  | set_0_H
  /-- `SET 0,L`: CB C5 (R194). -/
  | set_0_L
  /-- `SET 0,(HL)`: CB C6 (R195). -/
  | set_0_atHL
  /-- `SET 0,A`: CB C7 (R194). -/
  | set_0_A
  /-- `SET 1,B`: CB C8 (R194). -/
  | set_1_B
  /-- `SET 1,C`: CB C9 (R194). -/
  | set_1_C
  /-- `SET 1,D`: CB CA (R194). -/
  | set_1_D
  /-- `SET 1,E`: CB CB (R194). -/
  | set_1_E
  /-- `SET 1,H`: CB CC (R194). -/
  | set_1_H
  /-- `SET 1,L`: CB CD (R194). -/
  | set_1_L
  /-- `SET 1,(HL)`: CB CE (R195). -/
  | set_1_atHL
  /-- `SET 1,A`: CB CF (R194). -/
  | set_1_A
  /-- `SET 2,B`: CB D0 (R194). -/
  | set_2_B
  /-- `SET 2,C`: CB D1 (R194). -/
  | set_2_C
  /-- `SET 2,D`: CB D2 (R194). -/
  | set_2_D
  /-- `SET 2,E`: CB D3 (R194). -/
  | set_2_E
  /-- `SET 2,H`: CB D4 (R194). -/
  | set_2_H
  /-- `SET 2,L`: CB D5 (R194). -/
  | set_2_L
  /-- `SET 2,(HL)`: CB D6 (R195). -/
  | set_2_atHL
  /-- `SET 2,A`: CB D7 (R194). -/
  | set_2_A
  /-- `SET 3,B`: CB D8 (R194). -/
  | set_3_B
  /-- `SET 3,C`: CB D9 (R194). -/
  | set_3_C
  /-- `SET 3,D`: CB DA (R194). -/
  | set_3_D
  /-- `SET 3,E`: CB DB (R194). -/
  | set_3_E
  /-- `SET 3,H`: CB DC (R194). -/
  | set_3_H
  /-- `SET 3,L`: CB DD (R194). -/
  | set_3_L
  /-- `SET 3,(HL)`: CB DE (R195). -/
  | set_3_atHL
  /-- `SET 3,A`: CB DF (R194). -/
  | set_3_A
  /-- `SET 4,B`: CB E0 (R194). -/
  | set_4_B
  /-- `SET 4,C`: CB E1 (R194). -/
  | set_4_C
  /-- `SET 4,D`: CB E2 (R194). -/
  | set_4_D
  /-- `SET 4,E`: CB E3 (R194). -/
  | set_4_E
  /-- `SET 4,H`: CB E4 (R194). -/
  | set_4_H
  /-- `SET 4,L`: CB E5 (R194). -/
  | set_4_L
  /-- `SET 4,(HL)`: CB E6 (R195). -/
  | set_4_atHL
  /-- `SET 4,A`: CB E7 (R194). -/
  | set_4_A
  /-- `SET 5,B`: CB E8 (R194). -/
  | set_5_B
  /-- `SET 5,C`: CB E9 (R194). -/
  | set_5_C
  /-- `SET 5,D`: CB EA (R194). -/
  | set_5_D
  /-- `SET 5,E`: CB EB (R194). -/
  | set_5_E
  /-- `SET 5,H`: CB EC (R194). -/
  | set_5_H
  /-- `SET 5,L`: CB ED (R194). -/
  | set_5_L
  /-- `SET 5,(HL)`: CB EE (R195). -/
  | set_5_atHL
  /-- `SET 5,A`: CB EF (R194). -/
  | set_5_A
  /-- `SET 6,B`: CB F0 (R194). -/
  | set_6_B
  /-- `SET 6,C`: CB F1 (R194). -/
  | set_6_C
  /-- `SET 6,D`: CB F2 (R194). -/
  | set_6_D
  /-- `SET 6,E`: CB F3 (R194). -/
  | set_6_E
  /-- `SET 6,H`: CB F4 (R194). -/
  | set_6_H
  /-- `SET 6,L`: CB F5 (R194). -/
  | set_6_L
  /-- `SET 6,(HL)`: CB F6 (R195). -/
  | set_6_atHL
  /-- `SET 6,A`: CB F7 (R194). -/
  | set_6_A
  /-- `SET 7,B`: CB F8 (R194). -/
  | set_7_B
  /-- `SET 7,C`: CB F9 (R194). -/
  | set_7_C
  /-- `SET 7,D`: CB FA (R194). -/
  | set_7_D
  /-- `SET 7,E`: CB FB (R194). -/
  | set_7_E
  /-- `SET 7,H`: CB FC (R194). -/
  | set_7_H
  /-- `SET 7,L`: CB FD (R194). -/
  | set_7_L
  /-- `SET 7,(HL)`: CB FE (R195). -/
  | set_7_atHL
  /-- `SET 7,A`: CB FF (R194). -/
  | set_7_A
deriving DecidableEq, Repr

end Sys2Proof
end

