-- ==== Sys2Proof/WellFormed.lean ====
section
/-! DEFINITION. What makes a term of Instr a whole instruction. Operands carry their exact widths in their types, so
the one thing left to check is that the instruction is complete. -/

namespace Sys2Proof

/-- An instruction is whole when every byte R70 gives it is in it. The one incomplete term is the prefix byte
without the extended opcode that must follow it: R265 makes the two bytes one instruction. -/
def Instr.wellFormed (i : Instr) : Bool := decide (i ≠ .prefix_CB)

end Sys2Proof
end

