-- ==== Sys2Proof/Decode.lean ====
section
/-! DEFINITION. The instruction formats of 30_encoding.md: bit fields, field code tables, the families of rows, the decoder and
after it the encoder. Both are written from the bit-field tables R78 to R85; `Form` names a family and its fields, and the tables
`…Instr` below give the row of spec/opcode_table.json that each field value selects. -/

namespace Sys2Proof

/-! ## Bytes, words and bit fields -/

/-- `{hi, lo}` of 00_scope.md section 5. -/
def wordOf (hi lo : Byte) : Word := hi ++ lo

/-- `w[15:8]`. -/
def hiByte (w : Word) : Byte := w.extractLsb' 8 8

/-- `w[7:0]`. -/
def loByte (w : Word) : Byte := w.extractLsb' 0 8

/-- `x = op[7:6]` (R71). -/
def fieldX (op : Byte) : BitVec 2 := op.extractLsb' 6 2

/-- `y = op[5:3]` (R71). -/
def fieldY (op : Byte) : BitVec 3 := op.extractLsb' 3 3

/-- `z = op[2:0]` (R71). -/
def fieldZ (op : Byte) : BitVec 3 := op.extractLsb' 0 3

/-- `p = op[5:4]`, the upper two bits of `y` (R71). -/
def fieldP (y : BitVec 3) : BitVec 2 := y.extractLsb' 1 2

/-- `q = op[3]`, the lowest bit of `y` (R71). -/
def fieldQ (y : BitVec 3) : Bool := y.getLsbD 0

/-- The opcode byte with fields `x`, `y`, `z` (R71). -/
def joinXYZ (x : BitVec 2) (y z : BitVec 3) : Byte := x ++ y ++ z

/-- The field `y` with parts `p` and `q` (R71). -/
def joinPQ (p : BitVec 2) (q : Bool) : BitVec 3 := p ++ BitVec.ofBool q

/-! ## Field code tables -/

/-- R78, from code to operand. -/
def Operand8.ofCode (code : BitVec 3) : Operand8 :=
  match code.toNat with
  | 0 => .reg .b
  | 1 => .reg .c
  | 2 => .reg .d
  | 3 => .reg .e
  | 4 => .reg .h
  | 5 => .reg .l
  | 6 => .atHL
  | _ => .reg .a

/-- `get_register_from_byte` (R78): bits 2:0 of its argument select, bits 7:3 are ignored. -/
def getRegisterFromByte (byte : Byte) : Operand8 := Operand8.ofCode (fieldZ byte)

/-- R78, from register to code. -/
def Reg8.code : Reg8 → BitVec 3
  | .b => 0 | .c => 1 | .d => 2 | .e => 3 | .h => 4 | .l => 5 | .a => 7

/-- R78: the code of the memory operand. -/
def atHLCode : BitVec 3 := 6

/-- R79. -/
def Pair.ofCode (code : BitVec 2) : Pair :=
  match code.toNat with
  | 0 => .bc
  | 1 => .de
  | 2 => .hl
  | _ => .sp

/-- R79. -/
def Pair.code : Pair → BitVec 2
  | .bc => 0 | .de => 1 | .hl => 2 | .sp => 3

/-- R80. -/
def StackPair.ofCode (code : BitVec 2) : StackPair :=
  match code.toNat with
  | 0 => .bc
  | 1 => .de
  | 2 => .hl
  | _ => .af

/-- R80. -/
def StackPair.code : StackPair → BitVec 2
  | .bc => 0 | .de => 1 | .hl => 2 | .af => 3

/-- R81, on the low two bits of `y`: `y` itself for JP, CALL and RET, `y - 4` for JR. -/
def Cond.ofCode (y : BitVec 3) : Cond :=
  match (y.extractLsb' 0 2).toNat with
  | 0 => .nz
  | 1 => .z
  | 2 => .nc
  | _ => .c

/-- R81. -/
def Cond.code : Cond → BitVec 2
  | .nz => 0 | .z => 1 | .nc => 2 | .c => 3

/-- R82. -/
def Alu.ofCode (code : BitVec 3) : Alu :=
  match code.toNat with
  | 0 => .add
  | 1 => .adc
  | 2 => .sub
  | 3 => .sbc
  | 4 => .and
  | 5 => .xor
  | 6 => .or
  | _ => .cp

/-- R82. -/
def Alu.code : Alu → BitVec 3
  | .add => 0 | .adc => 1 | .sub => 2 | .sbc => 3 | .and => 4 | .xor => 5 | .or => 6 | .cp => 7

/-- R82. -/
def Rot.ofCode (code : BitVec 3) : Rot :=
  match code.toNat with
  | 0 => .rlc
  | 1 => .rrc
  | 2 => .rl
  | 3 => .rr
  | 4 => .sla
  | 5 => .sra
  | 6 => .swap
  | _ => .srl

/-- R82. -/
def Rot.code : Rot → BitVec 3
  | .rlc => 0 | .rrc => 1 | .rl => 2 | .rr => 3 | .sla => 4 | .sra => 5 | .swap => 6 | .srl => 7

/-- R82, R83: a bit index or the `y` of RST is its own code. -/
def indexOfCode (code : BitVec 3) : Index8 := code.toFin

/-- R82, R83. -/
def indexCode (i : Index8) : BitVec 3 := BitVec.ofFin i

/-- The opcode byte of an illegal code point (R86). -/
def IllegalCode.byte : IllegalCode → Byte
  | .d3 => 0xD3 | .db => 0xDB | .dd => 0xDD | .e3 => 0xE3 | .e4 => 0xE4 | .eb => 0xEB
  | .ec => 0xEC | .ed => 0xED | .f4 => 0xF4 | .fc => 0xFC | .fd => 0xFD

/-! ## Families -/

/-- The families of the extended table (R85). -/
inductive ExtForm where
  /-- 56 rows, the first `RLC B` (R204, R206, R208, R210, R212, R214, R216, R218). -/
  | rotReg (k : Rot) (r : Reg8)
  /-- 8 rows, the first `RLC (HL)` (R205, R207, R209, R211, R213, R215, R217, R219). -/
  | rotHL (k : Rot)
  /-- 56 rows, the first `BIT 0,B` (R190). -/
  | bitReg (i : Index8) (r : Reg8)
  /-- 8 rows, the first `BIT 0,(HL)` (R191). -/
  | bitHL (i : Index8)
  /-- 56 rows, the first `RES 0,B` (R192). -/
  | resReg (i : Index8) (r : Reg8)
  /-- 8 rows, the first `RES 0,(HL)` (R193). -/
  | resHL (i : Index8)
  /-- 56 rows, the first `SET 0,B` (R194). -/
  | setReg (i : Index8) (r : Reg8)
  /-- 8 rows, the first `SET 0,(HL)` (R195). -/
  | setHL (i : Index8)
deriving DecidableEq, Repr

/-- The families of both tables (R84, R85): what the bit fields of the opcode bytes select, with the operand bytes. -/
inductive Form where
  /-- 49 rows, the first `LD B,B` (R100). -/
  | ldRegReg (dst : Reg8) (r : Reg8)
  /-- 7 rows, the first `LD B,d8` (R101). -/
  | ldRegImm (r : Reg8) (n : Byte)
  /-- 7 rows, the first `LD B,(HL)` (R102). -/
  | ldRegHL (r : Reg8)
  /-- 7 rows, the first `LD (HL),B` (R103). -/
  | ldHLReg (r : Reg8)
  /-- 1 row, the first `LD (HL),d8` (R104). -/
  | ldHLImm (n : Byte)
  /-- 1 row, the first `LD A,(BC)` (R105). -/
  | ldABC
  /-- 1 row, the first `LD A,(DE)` (R106). -/
  | ldADE
  /-- 1 row, the first `LD (BC),A` (R107). -/
  | ldBCA
  /-- 1 row, the first `LD (DE),A` (R108). -/
  | ldDEA
  /-- 1 row, the first `LD A,(a16)` (R109). -/
  | ldAAbs (addr : Word)
  /-- 1 row, the first `LD (a16),A` (R110). -/
  | ldAbsA (addr : Word)
  /-- 1 row, the first `LDH A,(C)` (R111). -/
  | ldhAC
  /-- 1 row, the first `LDH (C),A` (R112). -/
  | ldhCA
  /-- 1 row, the first `LDH A,(a8)` (R113). -/
  | ldhAImm (n : Byte)
  /-- 1 row, the first `LDH (a8),A` (R114). -/
  | ldhImmA (n : Byte)
  /-- 1 row, the first `LD (HL+),A` (R115). -/
  | ldHLIncA
  /-- 1 row, the first `LD A,(HL+)` (R116). -/
  | ldAHLInc
  /-- 1 row, the first `LD (HL-),A` (R117). -/
  | ldHLDecA
  /-- 1 row, the first `LD A,(HL-)` (R118). -/
  | ldAHLDec
  /-- 4 rows, the first `LD BC,d16` (R130). -/
  | ldPairImm (p : Pair) (w : Word)
  /-- 1 row, the first `LD (a16),SP` (R131). -/
  | ldAbsSP (addr : Word)
  /-- 1 row, the first `LD SP,HL` (R132). -/
  | ldSPHL
  /-- 1 row, the first `LD HL,SP+e8` (R133). -/
  | ldHLSPOff (e : Byte)
  /-- 56 rows, the first `ADD A,B` (R140, R143, R146, R149, R152, R180, R183, R186). -/
  | aluReg (op : Alu) (r : Reg8)
  /-- 8 rows, the first `ADD A,(HL)` (R141, R144, R147, R150, R153, R181, R184, R187). -/
  | aluHL (op : Alu)
  /-- 8 rows, the first `ADD A,d8` (R142, R145, R148, R151, R154, R182, R185, R188). -/
  | aluImm (op : Alu) (n : Byte)
  /-- 7 rows, the first `INC B` (R155). -/
  | incReg (r : Reg8)
  /-- 1 row, the first `INC (HL)` (R156). -/
  | incHL
  /-- 7 rows, the first `DEC B` (R157). -/
  | decReg (r : Reg8)
  /-- 1 row, the first `DEC (HL)` (R158). -/
  | decHL
  /-- 1 row, the first `DAA` (R159). -/
  | daa
  /-- 1 row, the first `SCF` (R160). -/
  | scf
  /-- 1 row, the first `CCF` (R161). -/
  | ccf
  /-- 4 rows, the first `ADD HL,BC` (R170). -/
  | addHLPair (p : Pair)
  /-- 4 rows, the first `INC BC` (R171). -/
  | incPair (p : Pair)
  /-- 4 rows, the first `DEC BC` (R172). -/
  | decPair (p : Pair)
  /-- 1 row, the first `ADD SP,e8` (R173). -/
  | addSPOff (e : Byte)
  /-- 1 row, the first `CPL` (R189). -/
  | cpl
  /-- 1 row, the first `RLCA` (R200). -/
  | rlca
  /-- 1 row, the first `RRCA` (R201). -/
  | rrca
  /-- 1 row, the first `RLA` (R202). -/
  | rla
  /-- 1 row, the first `RRA` (R203). -/
  | rra
  /-- 1 row, the first `JP a16` (R230). -/
  | jp (addr : Word)
  /-- 4 rows, the first `JP NZ,a16` (R231). -/
  | jpCond (cc : Cond) (addr : Word)
  /-- 1 row, the first `JP HL` (R232). -/
  | jpHL
  /-- 1 row, the first `JR e8` (R233). -/
  | jr (e : Byte)
  /-- 4 rows, the first `JR NZ,e8` (R234). -/
  | jrCond (cc : Cond) (e : Byte)
  /-- 1 row, the first `CALL a16` (R235). -/
  | call (addr : Word)
  /-- 4 rows, the first `CALL NZ,a16` (R236). -/
  | callCond (cc : Cond) (addr : Word)
  /-- 1 row, the first `RET` (R237). -/
  | ret
  /-- 4 rows, the first `RET NZ` (R238). -/
  | retCond (cc : Cond)
  /-- 1 row, the first `RETI` (R239). -/
  | reti
  /-- 8 rows, the first `RST 0x00` (R240). -/
  | rst (i : Index8)
  /-- 4 rows, the first `PUSH BC` (R254). -/
  | push (p : StackPair)
  /-- 4 rows, the first `POP BC` (R256, R257). -/
  | pop (p : StackPair)
  /-- 1 row, the first `NOP` (R260). -/
  | nop
  /-- 1 row, the first `HALT` (R261). -/
  | halt
  /-- 1 row, the first `STOP` (R262). -/
  | stop (n : Byte)
  /-- 1 row, the first `EI` (R263). -/
  | ei
  /-- 1 row, the first `DI` (R264). -/
  | di
  /-- 1 row, the first `PREFIX CB` (R265). -/
  | prefixCB
  /-- 11 rows, the first `ILLEGAL_D3` (R266). -/
  | illegal (k : IllegalCode)
  /-- An extended-table instruction, prefix and opcode. -/
  | ext (x : ExtForm)
deriving DecidableEq, Repr

/-! ## The rows of each family -/

/-- The rows of the family `rotReg`, by field value. -/
def rotRegInstr : Rot → Reg8 → Instr
  | .rlc, .b => .rlc_B
  | .rlc, .c => .rlc_C
  | .rlc, .d => .rlc_D
  | .rlc, .e => .rlc_E
  | .rlc, .h => .rlc_H
  | .rlc, .l => .rlc_L
  | .rlc, .a => .rlc_A
  | .rrc, .b => .rrc_B
  | .rrc, .c => .rrc_C
  | .rrc, .d => .rrc_D
  | .rrc, .e => .rrc_E
  | .rrc, .h => .rrc_H
  | .rrc, .l => .rrc_L
  | .rrc, .a => .rrc_A
  | .rl, .b => .rl_B
  | .rl, .c => .rl_C
  | .rl, .d => .rl_D
  | .rl, .e => .rl_E
  | .rl, .h => .rl_H
  | .rl, .l => .rl_L
  | .rl, .a => .rl_A
  | .rr, .b => .rr_B
  | .rr, .c => .rr_C
  | .rr, .d => .rr_D
  | .rr, .e => .rr_E
  | .rr, .h => .rr_H
  | .rr, .l => .rr_L
  | .rr, .a => .rr_A
  | .sla, .b => .sla_B
  | .sla, .c => .sla_C
  | .sla, .d => .sla_D
  | .sla, .e => .sla_E
  | .sla, .h => .sla_H
  | .sla, .l => .sla_L
  | .sla, .a => .sla_A
  | .sra, .b => .sra_B
  | .sra, .c => .sra_C
  | .sra, .d => .sra_D
  | .sra, .e => .sra_E
  | .sra, .h => .sra_H
  | .sra, .l => .sra_L
  | .sra, .a => .sra_A
  | .swap, .b => .swap_B
  | .swap, .c => .swap_C
  | .swap, .d => .swap_D
  | .swap, .e => .swap_E
  | .swap, .h => .swap_H
  | .swap, .l => .swap_L
  | .swap, .a => .swap_A
  | .srl, .b => .srl_B
  | .srl, .c => .srl_C
  | .srl, .d => .srl_D
  | .srl, .e => .srl_E
  | .srl, .h => .srl_H
  | .srl, .l => .srl_L
  | .srl, .a => .srl_A

/-- The rows of the family `rotHL`, by field value. -/
def rotHLInstr : Rot → Instr
  | .rlc => .rlc_atHL
  | .rrc => .rrc_atHL
  | .rl => .rl_atHL
  | .rr => .rr_atHL
  | .sla => .sla_atHL
  | .sra => .sra_atHL
  | .swap => .swap_atHL
  | .srl => .srl_atHL

/-- The rows of the family `bitReg`, by field value. -/
def bitRegInstr : Index8 → Reg8 → Instr
  | 0, .b => .bit_0_B
  | 0, .c => .bit_0_C
  | 0, .d => .bit_0_D
  | 0, .e => .bit_0_E
  | 0, .h => .bit_0_H
  | 0, .l => .bit_0_L
  | 0, .a => .bit_0_A
  | 1, .b => .bit_1_B
  | 1, .c => .bit_1_C
  | 1, .d => .bit_1_D
  | 1, .e => .bit_1_E
  | 1, .h => .bit_1_H
  | 1, .l => .bit_1_L
  | 1, .a => .bit_1_A
  | 2, .b => .bit_2_B
  | 2, .c => .bit_2_C
  | 2, .d => .bit_2_D
  | 2, .e => .bit_2_E
  | 2, .h => .bit_2_H
  | 2, .l => .bit_2_L
  | 2, .a => .bit_2_A
  | 3, .b => .bit_3_B
  | 3, .c => .bit_3_C
  | 3, .d => .bit_3_D
  | 3, .e => .bit_3_E
  | 3, .h => .bit_3_H
  | 3, .l => .bit_3_L
  | 3, .a => .bit_3_A
  | 4, .b => .bit_4_B
  | 4, .c => .bit_4_C
  | 4, .d => .bit_4_D
  | 4, .e => .bit_4_E
  | 4, .h => .bit_4_H
  | 4, .l => .bit_4_L
  | 4, .a => .bit_4_A
  | 5, .b => .bit_5_B
  | 5, .c => .bit_5_C
  | 5, .d => .bit_5_D
  | 5, .e => .bit_5_E
  | 5, .h => .bit_5_H
  | 5, .l => .bit_5_L
  | 5, .a => .bit_5_A
  | 6, .b => .bit_6_B
  | 6, .c => .bit_6_C
  | 6, .d => .bit_6_D
  | 6, .e => .bit_6_E
  | 6, .h => .bit_6_H
  | 6, .l => .bit_6_L
  | 6, .a => .bit_6_A
  | 7, .b => .bit_7_B
  | 7, .c => .bit_7_C
  | 7, .d => .bit_7_D
  | 7, .e => .bit_7_E
  | 7, .h => .bit_7_H
  | 7, .l => .bit_7_L
  | 7, .a => .bit_7_A

/-- The rows of the family `bitHL`, by field value. -/
def bitHLInstr : Index8 → Instr
  | 0 => .bit_0_atHL
  | 1 => .bit_1_atHL
  | 2 => .bit_2_atHL
  | 3 => .bit_3_atHL
  | 4 => .bit_4_atHL
  | 5 => .bit_5_atHL
  | 6 => .bit_6_atHL
  | 7 => .bit_7_atHL

/-- The rows of the family `resReg`, by field value. -/
def resRegInstr : Index8 → Reg8 → Instr
  | 0, .b => .res_0_B
  | 0, .c => .res_0_C
  | 0, .d => .res_0_D
  | 0, .e => .res_0_E
  | 0, .h => .res_0_H
  | 0, .l => .res_0_L
  | 0, .a => .res_0_A
  | 1, .b => .res_1_B
  | 1, .c => .res_1_C
  | 1, .d => .res_1_D
  | 1, .e => .res_1_E
  | 1, .h => .res_1_H
  | 1, .l => .res_1_L
  | 1, .a => .res_1_A
  | 2, .b => .res_2_B
  | 2, .c => .res_2_C
  | 2, .d => .res_2_D
  | 2, .e => .res_2_E
  | 2, .h => .res_2_H
  | 2, .l => .res_2_L
  | 2, .a => .res_2_A
  | 3, .b => .res_3_B
  | 3, .c => .res_3_C
  | 3, .d => .res_3_D
  | 3, .e => .res_3_E
  | 3, .h => .res_3_H
  | 3, .l => .res_3_L
  | 3, .a => .res_3_A
  | 4, .b => .res_4_B
  | 4, .c => .res_4_C
  | 4, .d => .res_4_D
  | 4, .e => .res_4_E
  | 4, .h => .res_4_H
  | 4, .l => .res_4_L
  | 4, .a => .res_4_A
  | 5, .b => .res_5_B
  | 5, .c => .res_5_C
  | 5, .d => .res_5_D
  | 5, .e => .res_5_E
  | 5, .h => .res_5_H
  | 5, .l => .res_5_L
  | 5, .a => .res_5_A
  | 6, .b => .res_6_B
  | 6, .c => .res_6_C
  | 6, .d => .res_6_D
  | 6, .e => .res_6_E
  | 6, .h => .res_6_H
  | 6, .l => .res_6_L
  | 6, .a => .res_6_A
  | 7, .b => .res_7_B
  | 7, .c => .res_7_C
  | 7, .d => .res_7_D
  | 7, .e => .res_7_E
  | 7, .h => .res_7_H
  | 7, .l => .res_7_L
  | 7, .a => .res_7_A

/-- The rows of the family `resHL`, by field value. -/
def resHLInstr : Index8 → Instr
  | 0 => .res_0_atHL
  | 1 => .res_1_atHL
  | 2 => .res_2_atHL
  | 3 => .res_3_atHL
  | 4 => .res_4_atHL
  | 5 => .res_5_atHL
  | 6 => .res_6_atHL
  | 7 => .res_7_atHL

/-- The rows of the family `setReg`, by field value. -/
def setRegInstr : Index8 → Reg8 → Instr
  | 0, .b => .set_0_B
  | 0, .c => .set_0_C
  | 0, .d => .set_0_D
  | 0, .e => .set_0_E
  | 0, .h => .set_0_H
  | 0, .l => .set_0_L
  | 0, .a => .set_0_A
  | 1, .b => .set_1_B
  | 1, .c => .set_1_C
  | 1, .d => .set_1_D
  | 1, .e => .set_1_E
  | 1, .h => .set_1_H
  | 1, .l => .set_1_L
  | 1, .a => .set_1_A
  | 2, .b => .set_2_B
  | 2, .c => .set_2_C
  | 2, .d => .set_2_D
  | 2, .e => .set_2_E
  | 2, .h => .set_2_H
  | 2, .l => .set_2_L
  | 2, .a => .set_2_A
  | 3, .b => .set_3_B
  | 3, .c => .set_3_C
  | 3, .d => .set_3_D
  | 3, .e => .set_3_E
  | 3, .h => .set_3_H
  | 3, .l => .set_3_L
  | 3, .a => .set_3_A
  | 4, .b => .set_4_B
  | 4, .c => .set_4_C
  | 4, .d => .set_4_D
  | 4, .e => .set_4_E
  | 4, .h => .set_4_H
  | 4, .l => .set_4_L
  | 4, .a => .set_4_A
  | 5, .b => .set_5_B
  | 5, .c => .set_5_C
  | 5, .d => .set_5_D
  | 5, .e => .set_5_E
  | 5, .h => .set_5_H
  | 5, .l => .set_5_L
  | 5, .a => .set_5_A
  | 6, .b => .set_6_B
  | 6, .c => .set_6_C
  | 6, .d => .set_6_D
  | 6, .e => .set_6_E
  | 6, .h => .set_6_H
  | 6, .l => .set_6_L
  | 6, .a => .set_6_A
  | 7, .b => .set_7_B
  | 7, .c => .set_7_C
  | 7, .d => .set_7_D
  | 7, .e => .set_7_E
  | 7, .h => .set_7_H
  | 7, .l => .set_7_L
  | 7, .a => .set_7_A

/-- The rows of the family `setHL`, by field value. -/
def setHLInstr : Index8 → Instr
  | 0 => .set_0_atHL
  | 1 => .set_1_atHL
  | 2 => .set_2_atHL
  | 3 => .set_3_atHL
  | 4 => .set_4_atHL
  | 5 => .set_5_atHL
  | 6 => .set_6_atHL
  | 7 => .set_7_atHL

/-- The rows of the family `ldRegReg`, by field value. -/
def ldRegRegInstr : Reg8 → Reg8 → Instr
  | .b, .b => .ld_B_B
  | .b, .c => .ld_B_C
  | .b, .d => .ld_B_D
  | .b, .e => .ld_B_E
  | .b, .h => .ld_B_H
  | .b, .l => .ld_B_L
  | .b, .a => .ld_B_A
  | .c, .b => .ld_C_B
  | .c, .c => .ld_C_C
  | .c, .d => .ld_C_D
  | .c, .e => .ld_C_E
  | .c, .h => .ld_C_H
  | .c, .l => .ld_C_L
  | .c, .a => .ld_C_A
  | .d, .b => .ld_D_B
  | .d, .c => .ld_D_C
  | .d, .d => .ld_D_D
  | .d, .e => .ld_D_E
  | .d, .h => .ld_D_H
  | .d, .l => .ld_D_L
  | .d, .a => .ld_D_A
  | .e, .b => .ld_E_B
  | .e, .c => .ld_E_C
  | .e, .d => .ld_E_D
  | .e, .e => .ld_E_E
  | .e, .h => .ld_E_H
  | .e, .l => .ld_E_L
  | .e, .a => .ld_E_A
  | .h, .b => .ld_H_B
  | .h, .c => .ld_H_C
  | .h, .d => .ld_H_D
  | .h, .e => .ld_H_E
  | .h, .h => .ld_H_H
  | .h, .l => .ld_H_L
  | .h, .a => .ld_H_A
  | .l, .b => .ld_L_B
  | .l, .c => .ld_L_C
  | .l, .d => .ld_L_D
  | .l, .e => .ld_L_E
  | .l, .h => .ld_L_H
  | .l, .l => .ld_L_L
  | .l, .a => .ld_L_A
  | .a, .b => .ld_A_B
  | .a, .c => .ld_A_C
  | .a, .d => .ld_A_D
  | .a, .e => .ld_A_E
  | .a, .h => .ld_A_H
  | .a, .l => .ld_A_L
  | .a, .a => .ld_A_A

/-- The rows of the family `ldRegImm`, by field value. -/
def ldRegImmInstr : Reg8 → Byte → Instr
  | .b, n => .ld_B_d8 n
  | .c, n => .ld_C_d8 n
  | .d, n => .ld_D_d8 n
  | .e, n => .ld_E_d8 n
  | .h, n => .ld_H_d8 n
  | .l, n => .ld_L_d8 n
  | .a, n => .ld_A_d8 n

/-- The rows of the family `ldRegHL`, by field value. -/
def ldRegHLInstr : Reg8 → Instr
  | .b => .ld_B_atHL
  | .c => .ld_C_atHL
  | .d => .ld_D_atHL
  | .e => .ld_E_atHL
  | .h => .ld_H_atHL
  | .l => .ld_L_atHL
  | .a => .ld_A_atHL

/-- The rows of the family `ldHLReg`, by field value. -/
def ldHLRegInstr : Reg8 → Instr
  | .b => .ld_atHL_B
  | .c => .ld_atHL_C
  | .d => .ld_atHL_D
  | .e => .ld_atHL_E
  | .h => .ld_atHL_H
  | .l => .ld_atHL_L
  | .a => .ld_atHL_A

/-- The rows of the family `ldPairImm`, by field value. -/
def ldPairImmInstr : Pair → Word → Instr
  | .bc, w => .ld_BC_d16 w
  | .de, w => .ld_DE_d16 w
  | .hl, w => .ld_HL_d16 w
  | .sp, w => .ld_SP_d16 w

/-- The rows of the family `aluReg`, by field value. -/
def aluRegInstr : Alu → Reg8 → Instr
  | .add, .b => .add_A_B
  | .add, .c => .add_A_C
  | .add, .d => .add_A_D
  | .add, .e => .add_A_E
  | .add, .h => .add_A_H
  | .add, .l => .add_A_L
  | .add, .a => .add_A_A
  | .adc, .b => .adc_A_B
  | .adc, .c => .adc_A_C
  | .adc, .d => .adc_A_D
  | .adc, .e => .adc_A_E
  | .adc, .h => .adc_A_H
  | .adc, .l => .adc_A_L
  | .adc, .a => .adc_A_A
  | .sub, .b => .sub_A_B
  | .sub, .c => .sub_A_C
  | .sub, .d => .sub_A_D
  | .sub, .e => .sub_A_E
  | .sub, .h => .sub_A_H
  | .sub, .l => .sub_A_L
  | .sub, .a => .sub_A_A
  | .sbc, .b => .sbc_A_B
  | .sbc, .c => .sbc_A_C
  | .sbc, .d => .sbc_A_D
  | .sbc, .e => .sbc_A_E
  | .sbc, .h => .sbc_A_H
  | .sbc, .l => .sbc_A_L
  | .sbc, .a => .sbc_A_A
  | .and, .b => .and_A_B
  | .and, .c => .and_A_C
  | .and, .d => .and_A_D
  | .and, .e => .and_A_E
  | .and, .h => .and_A_H
  | .and, .l => .and_A_L
  | .and, .a => .and_A_A
  | .xor, .b => .xor_A_B
  | .xor, .c => .xor_A_C
  | .xor, .d => .xor_A_D
  | .xor, .e => .xor_A_E
  | .xor, .h => .xor_A_H
  | .xor, .l => .xor_A_L
  | .xor, .a => .xor_A_A
  | .or, .b => .or_A_B
  | .or, .c => .or_A_C
  | .or, .d => .or_A_D
  | .or, .e => .or_A_E
  | .or, .h => .or_A_H
  | .or, .l => .or_A_L
  | .or, .a => .or_A_A
  | .cp, .b => .cp_A_B
  | .cp, .c => .cp_A_C
  | .cp, .d => .cp_A_D
  | .cp, .e => .cp_A_E
  | .cp, .h => .cp_A_H
  | .cp, .l => .cp_A_L
  | .cp, .a => .cp_A_A

/-- The rows of the family `aluHL`, by field value. -/
def aluHLInstr : Alu → Instr
  | .add => .add_A_atHL
  | .adc => .adc_A_atHL
  | .sub => .sub_A_atHL
  | .sbc => .sbc_A_atHL
  | .and => .and_A_atHL
  | .xor => .xor_A_atHL
  | .or => .or_A_atHL
  | .cp => .cp_A_atHL

/-- The rows of the family `aluImm`, by field value. -/
def aluImmInstr : Alu → Byte → Instr
  | .add, n => .add_A_d8 n
  | .adc, n => .adc_A_d8 n
  | .sub, n => .sub_A_d8 n
  | .sbc, n => .sbc_A_d8 n
  | .and, n => .and_A_d8 n
  | .xor, n => .xor_A_d8 n
  | .or, n => .or_A_d8 n
  | .cp, n => .cp_A_d8 n

/-- The rows of the family `incReg`, by field value. -/
def incRegInstr : Reg8 → Instr
  | .b => .inc_B
  | .c => .inc_C
  | .d => .inc_D
  | .e => .inc_E
  | .h => .inc_H
  | .l => .inc_L
  | .a => .inc_A

/-- The rows of the family `decReg`, by field value. -/
def decRegInstr : Reg8 → Instr
  | .b => .dec_B
  | .c => .dec_C
  | .d => .dec_D
  | .e => .dec_E
  | .h => .dec_H
  | .l => .dec_L
  | .a => .dec_A

/-- The rows of the family `addHLPair`, by field value. -/
def addHLPairInstr : Pair → Instr
  | .bc => .add_HL_BC
  | .de => .add_HL_DE
  | .hl => .add_HL_HL
  | .sp => .add_HL_SP

/-- The rows of the family `incPair`, by field value. -/
def incPairInstr : Pair → Instr
  | .bc => .inc_BC
  | .de => .inc_DE
  | .hl => .inc_HL
  | .sp => .inc_SP

/-- The rows of the family `decPair`, by field value. -/
def decPairInstr : Pair → Instr
  | .bc => .dec_BC
  | .de => .dec_DE
  | .hl => .dec_HL
  | .sp => .dec_SP

/-- The rows of the family `jpCond`, by field value. -/
def jpCondInstr : Cond → Word → Instr
  | .nz, addr => .jp_NZ_a16 addr
  | .z, addr => .jp_Z_a16 addr
  | .nc, addr => .jp_NC_a16 addr
  | .c, addr => .jp_C_a16 addr

/-- The rows of the family `jrCond`, by field value. -/
def jrCondInstr : Cond → Byte → Instr
  | .nz, e => .jr_NZ_e8 e
  | .z, e => .jr_Z_e8 e
  | .nc, e => .jr_NC_e8 e
  | .c, e => .jr_C_e8 e

/-- The rows of the family `callCond`, by field value. -/
def callCondInstr : Cond → Word → Instr
  | .nz, addr => .call_NZ_a16 addr
  | .z, addr => .call_Z_a16 addr
  | .nc, addr => .call_NC_a16 addr
  | .c, addr => .call_C_a16 addr

/-- The rows of the family `retCond`, by field value. -/
def retCondInstr : Cond → Instr
  | .nz => .ret_NZ
  | .z => .ret_Z
  | .nc => .ret_NC
  | .c => .ret_C

/-- The rows of the family `rst`, by field value. -/
def rstInstr : Index8 → Instr
  | 0 => .rst_00
  | 1 => .rst_08
  | 2 => .rst_10
  | 3 => .rst_18
  | 4 => .rst_20
  | 5 => .rst_28
  | 6 => .rst_30
  | 7 => .rst_38

/-- The rows of the family `push`, by field value. -/
def pushInstr : StackPair → Instr
  | .bc => .push_BC
  | .de => .push_DE
  | .hl => .push_HL
  | .af => .push_AF

/-- The rows of the family `pop`, by field value. -/
def popInstr : StackPair → Instr
  | .bc => .pop_BC
  | .de => .pop_DE
  | .hl => .pop_HL
  | .af => .pop_AF

/-- The rows of the family `illegal`, by field value. -/
def illegalInstr : IllegalCode → Instr
  | .d3 => .illegal_D3
  | .db => .illegal_DB
  | .dd => .illegal_DD
  | .e3 => .illegal_E3
  | .e4 => .illegal_E4
  | .eb => .illegal_EB
  | .ec => .illegal_EC
  | .ed => .illegal_ED
  | .f4 => .illegal_F4
  | .fc => .illegal_FC
  | .fd => .illegal_FD

/-- The row of an extended-table family member. -/
def ExtForm.toInstr : ExtForm → Instr
  | .rotReg x y => rotRegInstr x y
  | .rotHL x => rotHLInstr x
  | .bitReg x y => bitRegInstr x y
  | .bitHL x => bitHLInstr x
  | .resReg x y => resRegInstr x y
  | .resHL x => resHLInstr x
  | .setReg x y => setRegInstr x y
  | .setHL x => setHLInstr x

/-- The row of a family member: the other way of `Instr.form`. -/
def Form.toInstr : Form → Instr
  | .ldRegReg x y => ldRegRegInstr x y
  | .ldRegImm x n => ldRegImmInstr x n
  | .ldRegHL x => ldRegHLInstr x
  | .ldHLReg x => ldHLRegInstr x
  | .ldHLImm n => .ld_atHL_d8 n
  | .ldABC => .ld_A_atBC
  | .ldADE => .ld_A_atDE
  | .ldBCA => .ld_atBC_A
  | .ldDEA => .ld_atDE_A
  | .ldAAbs addr => .ld_A_atA16 addr
  | .ldAbsA addr => .ld_atA16_A addr
  | .ldhAC => .ldh_A_atC
  | .ldhCA => .ldh_atC_A
  | .ldhAImm n => .ldh_A_atA8 n
  | .ldhImmA n => .ldh_atA8_A n
  | .ldHLIncA => .ld_atHLinc_A
  | .ldAHLInc => .ld_A_atHLinc
  | .ldHLDecA => .ld_atHLdec_A
  | .ldAHLDec => .ld_A_atHLdec
  | .ldPairImm x w => ldPairImmInstr x w
  | .ldAbsSP addr => .ld_atA16_SP addr
  | .ldSPHL => .ld_SP_HL
  | .ldHLSPOff e => .ld_HL_SPe8 e
  | .aluReg x y => aluRegInstr x y
  | .aluHL x => aluHLInstr x
  | .aluImm x n => aluImmInstr x n
  | .incReg x => incRegInstr x
  | .incHL => .inc_atHL
  | .decReg x => decRegInstr x
  | .decHL => .dec_atHL
  | .daa => .daa
  | .scf => .scf
  | .ccf => .ccf
  | .addHLPair x => addHLPairInstr x
  | .incPair x => incPairInstr x
  | .decPair x => decPairInstr x
  | .addSPOff e => .add_SP_e8 e
  | .cpl => .cpl
  | .rlca => .rlca
  | .rrca => .rrca
  | .rla => .rla
  | .rra => .rra
  | .jp addr => .jp_a16 addr
  | .jpCond x addr => jpCondInstr x addr
  | .jpHL => .jp_HL
  | .jr e => .jr_e8 e
  | .jrCond x e => jrCondInstr x e
  | .call addr => .call_a16 addr
  | .callCond x addr => callCondInstr x addr
  | .ret => .ret
  | .retCond x => retCondInstr x
  | .reti => .reti
  | .rst x => rstInstr x
  | .push x => pushInstr x
  | .pop x => popInstr x
  | .nop => .nop
  | .halt => .halt
  | .stop n => .stop n
  | .ei => .ei
  | .di => .di
  | .prefixCB => .prefix_CB
  | .illegal x => illegalInstr x
  | .ext x => x.toInstr

/-- The family and fields of a row (the columns `encoding` and `fields` of opcode_table.json). -/
def Instr.form : Instr → Form
  | .nop => .nop
  | .ld_BC_d16 w => .ldPairImm .bc w
  | .ld_atBC_A => .ldBCA
  | .inc_BC => .incPair .bc
  | .inc_B => .incReg .b
  | .dec_B => .decReg .b
  | .ld_B_d8 n => .ldRegImm .b n
  | .rlca => .rlca
  | .ld_atA16_SP addr => .ldAbsSP addr
  | .add_HL_BC => .addHLPair .bc
  | .ld_A_atBC => .ldABC
  | .dec_BC => .decPair .bc
  | .inc_C => .incReg .c
  | .dec_C => .decReg .c
  | .ld_C_d8 n => .ldRegImm .c n
  | .rrca => .rrca
  | .stop n => .stop n
  | .ld_DE_d16 w => .ldPairImm .de w
  | .ld_atDE_A => .ldDEA
  | .inc_DE => .incPair .de
  | .inc_D => .incReg .d
  | .dec_D => .decReg .d
  | .ld_D_d8 n => .ldRegImm .d n
  | .rla => .rla
  | .jr_e8 e => .jr e
  | .add_HL_DE => .addHLPair .de
  | .ld_A_atDE => .ldADE
  | .dec_DE => .decPair .de
  | .inc_E => .incReg .e
  | .dec_E => .decReg .e
  | .ld_E_d8 n => .ldRegImm .e n
  | .rra => .rra
  | .jr_NZ_e8 e => .jrCond .nz e
  | .ld_HL_d16 w => .ldPairImm .hl w
  | .ld_atHLinc_A => .ldHLIncA
  | .inc_HL => .incPair .hl
  | .inc_H => .incReg .h
  | .dec_H => .decReg .h
  | .ld_H_d8 n => .ldRegImm .h n
  | .daa => .daa
  | .jr_Z_e8 e => .jrCond .z e
  | .add_HL_HL => .addHLPair .hl
  | .ld_A_atHLinc => .ldAHLInc
  | .dec_HL => .decPair .hl
  | .inc_L => .incReg .l
  | .dec_L => .decReg .l
  | .ld_L_d8 n => .ldRegImm .l n
  | .cpl => .cpl
  | .jr_NC_e8 e => .jrCond .nc e
  | .ld_SP_d16 w => .ldPairImm .sp w
  | .ld_atHLdec_A => .ldHLDecA
  | .inc_SP => .incPair .sp
  | .inc_atHL => .incHL
  | .dec_atHL => .decHL
  | .ld_atHL_d8 n => .ldHLImm n
  | .scf => .scf
  | .jr_C_e8 e => .jrCond .c e
  | .add_HL_SP => .addHLPair .sp
  | .ld_A_atHLdec => .ldAHLDec
  | .dec_SP => .decPair .sp
  | .inc_A => .incReg .a
  | .dec_A => .decReg .a
  | .ld_A_d8 n => .ldRegImm .a n
  | .ccf => .ccf
  | .ld_B_B => .ldRegReg .b .b
  | .ld_B_C => .ldRegReg .b .c
  | .ld_B_D => .ldRegReg .b .d
  | .ld_B_E => .ldRegReg .b .e
  | .ld_B_H => .ldRegReg .b .h
  | .ld_B_L => .ldRegReg .b .l
  | .ld_B_atHL => .ldRegHL .b
  | .ld_B_A => .ldRegReg .b .a
  | .ld_C_B => .ldRegReg .c .b
  | .ld_C_C => .ldRegReg .c .c
  | .ld_C_D => .ldRegReg .c .d
  | .ld_C_E => .ldRegReg .c .e
  | .ld_C_H => .ldRegReg .c .h
  | .ld_C_L => .ldRegReg .c .l
  | .ld_C_atHL => .ldRegHL .c
  | .ld_C_A => .ldRegReg .c .a
  | .ld_D_B => .ldRegReg .d .b
  | .ld_D_C => .ldRegReg .d .c
  | .ld_D_D => .ldRegReg .d .d
  | .ld_D_E => .ldRegReg .d .e
  | .ld_D_H => .ldRegReg .d .h
  | .ld_D_L => .ldRegReg .d .l
  | .ld_D_atHL => .ldRegHL .d
  | .ld_D_A => .ldRegReg .d .a
  | .ld_E_B => .ldRegReg .e .b
  | .ld_E_C => .ldRegReg .e .c
  | .ld_E_D => .ldRegReg .e .d
  | .ld_E_E => .ldRegReg .e .e
  | .ld_E_H => .ldRegReg .e .h
  | .ld_E_L => .ldRegReg .e .l
  | .ld_E_atHL => .ldRegHL .e
  | .ld_E_A => .ldRegReg .e .a
  | .ld_H_B => .ldRegReg .h .b
  | .ld_H_C => .ldRegReg .h .c
  | .ld_H_D => .ldRegReg .h .d
  | .ld_H_E => .ldRegReg .h .e
  | .ld_H_H => .ldRegReg .h .h
  | .ld_H_L => .ldRegReg .h .l
  | .ld_H_atHL => .ldRegHL .h
  | .ld_H_A => .ldRegReg .h .a
  | .ld_L_B => .ldRegReg .l .b
  | .ld_L_C => .ldRegReg .l .c
  | .ld_L_D => .ldRegReg .l .d
  | .ld_L_E => .ldRegReg .l .e
  | .ld_L_H => .ldRegReg .l .h
  | .ld_L_L => .ldRegReg .l .l
  | .ld_L_atHL => .ldRegHL .l
  | .ld_L_A => .ldRegReg .l .a
  | .ld_atHL_B => .ldHLReg .b
  | .ld_atHL_C => .ldHLReg .c
  | .ld_atHL_D => .ldHLReg .d
  | .ld_atHL_E => .ldHLReg .e
  | .ld_atHL_H => .ldHLReg .h
  | .ld_atHL_L => .ldHLReg .l
  | .halt => .halt
  | .ld_atHL_A => .ldHLReg .a
  | .ld_A_B => .ldRegReg .a .b
  | .ld_A_C => .ldRegReg .a .c
  | .ld_A_D => .ldRegReg .a .d
  | .ld_A_E => .ldRegReg .a .e
  | .ld_A_H => .ldRegReg .a .h
  | .ld_A_L => .ldRegReg .a .l
  | .ld_A_atHL => .ldRegHL .a
  | .ld_A_A => .ldRegReg .a .a
  | .add_A_B => .aluReg .add .b
  | .add_A_C => .aluReg .add .c
  | .add_A_D => .aluReg .add .d
  | .add_A_E => .aluReg .add .e
  | .add_A_H => .aluReg .add .h
  | .add_A_L => .aluReg .add .l
  | .add_A_atHL => .aluHL .add
  | .add_A_A => .aluReg .add .a
  | .adc_A_B => .aluReg .adc .b
  | .adc_A_C => .aluReg .adc .c
  | .adc_A_D => .aluReg .adc .d
  | .adc_A_E => .aluReg .adc .e
  | .adc_A_H => .aluReg .adc .h
  | .adc_A_L => .aluReg .adc .l
  | .adc_A_atHL => .aluHL .adc
  | .adc_A_A => .aluReg .adc .a
  | .sub_A_B => .aluReg .sub .b
  | .sub_A_C => .aluReg .sub .c
  | .sub_A_D => .aluReg .sub .d
  | .sub_A_E => .aluReg .sub .e
  | .sub_A_H => .aluReg .sub .h
  | .sub_A_L => .aluReg .sub .l
  | .sub_A_atHL => .aluHL .sub
  | .sub_A_A => .aluReg .sub .a
  | .sbc_A_B => .aluReg .sbc .b
  | .sbc_A_C => .aluReg .sbc .c
  | .sbc_A_D => .aluReg .sbc .d
  | .sbc_A_E => .aluReg .sbc .e
  | .sbc_A_H => .aluReg .sbc .h
  | .sbc_A_L => .aluReg .sbc .l
  | .sbc_A_atHL => .aluHL .sbc
  | .sbc_A_A => .aluReg .sbc .a
  | .and_A_B => .aluReg .and .b
  | .and_A_C => .aluReg .and .c
  | .and_A_D => .aluReg .and .d
  | .and_A_E => .aluReg .and .e
  | .and_A_H => .aluReg .and .h
  | .and_A_L => .aluReg .and .l
  | .and_A_atHL => .aluHL .and
  | .and_A_A => .aluReg .and .a
  | .xor_A_B => .aluReg .xor .b
  | .xor_A_C => .aluReg .xor .c
  | .xor_A_D => .aluReg .xor .d
  | .xor_A_E => .aluReg .xor .e
  | .xor_A_H => .aluReg .xor .h
  | .xor_A_L => .aluReg .xor .l
  | .xor_A_atHL => .aluHL .xor
  | .xor_A_A => .aluReg .xor .a
  | .or_A_B => .aluReg .or .b
  | .or_A_C => .aluReg .or .c
  | .or_A_D => .aluReg .or .d
  | .or_A_E => .aluReg .or .e
  | .or_A_H => .aluReg .or .h
  | .or_A_L => .aluReg .or .l
  | .or_A_atHL => .aluHL .or
  | .or_A_A => .aluReg .or .a
  | .cp_A_B => .aluReg .cp .b
  | .cp_A_C => .aluReg .cp .c
  | .cp_A_D => .aluReg .cp .d
  | .cp_A_E => .aluReg .cp .e
  | .cp_A_H => .aluReg .cp .h
  | .cp_A_L => .aluReg .cp .l
  | .cp_A_atHL => .aluHL .cp
  | .cp_A_A => .aluReg .cp .a
  | .ret_NZ => .retCond .nz
  | .pop_BC => .pop .bc
  | .jp_NZ_a16 addr => .jpCond .nz addr
  | .jp_a16 addr => .jp addr
  | .call_NZ_a16 addr => .callCond .nz addr
  | .push_BC => .push .bc
  | .add_A_d8 n => .aluImm .add n
  | .rst_00 => .rst 0
  | .ret_Z => .retCond .z
  | .ret => .ret
  | .jp_Z_a16 addr => .jpCond .z addr
  | .prefix_CB => .prefixCB
  | .call_Z_a16 addr => .callCond .z addr
  | .call_a16 addr => .call addr
  | .adc_A_d8 n => .aluImm .adc n
  | .rst_08 => .rst 1
  | .ret_NC => .retCond .nc
  | .pop_DE => .pop .de
  | .jp_NC_a16 addr => .jpCond .nc addr
  | .illegal_D3 => .illegal .d3
  | .call_NC_a16 addr => .callCond .nc addr
  | .push_DE => .push .de
  | .sub_A_d8 n => .aluImm .sub n
  | .rst_10 => .rst 2
  | .ret_C => .retCond .c
  | .reti => .reti
  | .jp_C_a16 addr => .jpCond .c addr
  | .illegal_DB => .illegal .db
  | .call_C_a16 addr => .callCond .c addr
  | .illegal_DD => .illegal .dd
  | .sbc_A_d8 n => .aluImm .sbc n
  | .rst_18 => .rst 3
  | .ldh_atA8_A n => .ldhImmA n
  | .pop_HL => .pop .hl
  | .ldh_atC_A => .ldhCA
  | .illegal_E3 => .illegal .e3
  | .illegal_E4 => .illegal .e4
  | .push_HL => .push .hl
  | .and_A_d8 n => .aluImm .and n
  | .rst_20 => .rst 4
  | .add_SP_e8 e => .addSPOff e
  | .jp_HL => .jpHL
  | .ld_atA16_A addr => .ldAbsA addr
  | .illegal_EB => .illegal .eb
  | .illegal_EC => .illegal .ec
  | .illegal_ED => .illegal .ed
  | .xor_A_d8 n => .aluImm .xor n
  | .rst_28 => .rst 5
  | .ldh_A_atA8 n => .ldhAImm n
  | .pop_AF => .pop .af
  | .ldh_A_atC => .ldhAC
  | .di => .di
  | .illegal_F4 => .illegal .f4
  | .push_AF => .push .af
  | .or_A_d8 n => .aluImm .or n
  | .rst_30 => .rst 6
  | .ld_HL_SPe8 e => .ldHLSPOff e
  | .ld_SP_HL => .ldSPHL
  | .ld_A_atA16 addr => .ldAAbs addr
  | .ei => .ei
  | .illegal_FC => .illegal .fc
  | .illegal_FD => .illegal .fd
  | .cp_A_d8 n => .aluImm .cp n
  | .rst_38 => .rst 7
  | .rlc_B => .ext (.rotReg .rlc .b)
  | .rlc_C => .ext (.rotReg .rlc .c)
  | .rlc_D => .ext (.rotReg .rlc .d)
  | .rlc_E => .ext (.rotReg .rlc .e)
  | .rlc_H => .ext (.rotReg .rlc .h)
  | .rlc_L => .ext (.rotReg .rlc .l)
  | .rlc_atHL => .ext (.rotHL .rlc)
  | .rlc_A => .ext (.rotReg .rlc .a)
  | .rrc_B => .ext (.rotReg .rrc .b)
  | .rrc_C => .ext (.rotReg .rrc .c)
  | .rrc_D => .ext (.rotReg .rrc .d)
  | .rrc_E => .ext (.rotReg .rrc .e)
  | .rrc_H => .ext (.rotReg .rrc .h)
  | .rrc_L => .ext (.rotReg .rrc .l)
  | .rrc_atHL => .ext (.rotHL .rrc)
  | .rrc_A => .ext (.rotReg .rrc .a)
  | .rl_B => .ext (.rotReg .rl .b)
  | .rl_C => .ext (.rotReg .rl .c)
  | .rl_D => .ext (.rotReg .rl .d)
  | .rl_E => .ext (.rotReg .rl .e)
  | .rl_H => .ext (.rotReg .rl .h)
  | .rl_L => .ext (.rotReg .rl .l)
  | .rl_atHL => .ext (.rotHL .rl)
  | .rl_A => .ext (.rotReg .rl .a)
  | .rr_B => .ext (.rotReg .rr .b)
  | .rr_C => .ext (.rotReg .rr .c)
  | .rr_D => .ext (.rotReg .rr .d)
  | .rr_E => .ext (.rotReg .rr .e)
  | .rr_H => .ext (.rotReg .rr .h)
  | .rr_L => .ext (.rotReg .rr .l)
  | .rr_atHL => .ext (.rotHL .rr)
  | .rr_A => .ext (.rotReg .rr .a)
  | .sla_B => .ext (.rotReg .sla .b)
  | .sla_C => .ext (.rotReg .sla .c)
  | .sla_D => .ext (.rotReg .sla .d)
  | .sla_E => .ext (.rotReg .sla .e)
  | .sla_H => .ext (.rotReg .sla .h)
  | .sla_L => .ext (.rotReg .sla .l)
  | .sla_atHL => .ext (.rotHL .sla)
  | .sla_A => .ext (.rotReg .sla .a)
  | .sra_B => .ext (.rotReg .sra .b)
  | .sra_C => .ext (.rotReg .sra .c)
  | .sra_D => .ext (.rotReg .sra .d)
  | .sra_E => .ext (.rotReg .sra .e)
  | .sra_H => .ext (.rotReg .sra .h)
  | .sra_L => .ext (.rotReg .sra .l)
  | .sra_atHL => .ext (.rotHL .sra)
  | .sra_A => .ext (.rotReg .sra .a)
  | .swap_B => .ext (.rotReg .swap .b)
  | .swap_C => .ext (.rotReg .swap .c)
  | .swap_D => .ext (.rotReg .swap .d)
  | .swap_E => .ext (.rotReg .swap .e)
  | .swap_H => .ext (.rotReg .swap .h)
  | .swap_L => .ext (.rotReg .swap .l)
  | .swap_atHL => .ext (.rotHL .swap)
  | .swap_A => .ext (.rotReg .swap .a)
  | .srl_B => .ext (.rotReg .srl .b)
  | .srl_C => .ext (.rotReg .srl .c)
  | .srl_D => .ext (.rotReg .srl .d)
  | .srl_E => .ext (.rotReg .srl .e)
  | .srl_H => .ext (.rotReg .srl .h)
  | .srl_L => .ext (.rotReg .srl .l)
  | .srl_atHL => .ext (.rotHL .srl)
  | .srl_A => .ext (.rotReg .srl .a)
  | .bit_0_B => .ext (.bitReg 0 .b)
  | .bit_0_C => .ext (.bitReg 0 .c)
  | .bit_0_D => .ext (.bitReg 0 .d)
  | .bit_0_E => .ext (.bitReg 0 .e)
  | .bit_0_H => .ext (.bitReg 0 .h)
  | .bit_0_L => .ext (.bitReg 0 .l)
  | .bit_0_atHL => .ext (.bitHL 0)
  | .bit_0_A => .ext (.bitReg 0 .a)
  | .bit_1_B => .ext (.bitReg 1 .b)
  | .bit_1_C => .ext (.bitReg 1 .c)
  | .bit_1_D => .ext (.bitReg 1 .d)
  | .bit_1_E => .ext (.bitReg 1 .e)
  | .bit_1_H => .ext (.bitReg 1 .h)
  | .bit_1_L => .ext (.bitReg 1 .l)
  | .bit_1_atHL => .ext (.bitHL 1)
  | .bit_1_A => .ext (.bitReg 1 .a)
  | .bit_2_B => .ext (.bitReg 2 .b)
  | .bit_2_C => .ext (.bitReg 2 .c)
  | .bit_2_D => .ext (.bitReg 2 .d)
  | .bit_2_E => .ext (.bitReg 2 .e)
  | .bit_2_H => .ext (.bitReg 2 .h)
  | .bit_2_L => .ext (.bitReg 2 .l)
  | .bit_2_atHL => .ext (.bitHL 2)
  | .bit_2_A => .ext (.bitReg 2 .a)
  | .bit_3_B => .ext (.bitReg 3 .b)
  | .bit_3_C => .ext (.bitReg 3 .c)
  | .bit_3_D => .ext (.bitReg 3 .d)
  | .bit_3_E => .ext (.bitReg 3 .e)
  | .bit_3_H => .ext (.bitReg 3 .h)
  | .bit_3_L => .ext (.bitReg 3 .l)
  | .bit_3_atHL => .ext (.bitHL 3)
  | .bit_3_A => .ext (.bitReg 3 .a)
  | .bit_4_B => .ext (.bitReg 4 .b)
  | .bit_4_C => .ext (.bitReg 4 .c)
  | .bit_4_D => .ext (.bitReg 4 .d)
  | .bit_4_E => .ext (.bitReg 4 .e)
  | .bit_4_H => .ext (.bitReg 4 .h)
  | .bit_4_L => .ext (.bitReg 4 .l)
  | .bit_4_atHL => .ext (.bitHL 4)
  | .bit_4_A => .ext (.bitReg 4 .a)
  | .bit_5_B => .ext (.bitReg 5 .b)
  | .bit_5_C => .ext (.bitReg 5 .c)
  | .bit_5_D => .ext (.bitReg 5 .d)
  | .bit_5_E => .ext (.bitReg 5 .e)
  | .bit_5_H => .ext (.bitReg 5 .h)
  | .bit_5_L => .ext (.bitReg 5 .l)
  | .bit_5_atHL => .ext (.bitHL 5)
  | .bit_5_A => .ext (.bitReg 5 .a)
  | .bit_6_B => .ext (.bitReg 6 .b)
  | .bit_6_C => .ext (.bitReg 6 .c)
  | .bit_6_D => .ext (.bitReg 6 .d)
  | .bit_6_E => .ext (.bitReg 6 .e)
  | .bit_6_H => .ext (.bitReg 6 .h)
  | .bit_6_L => .ext (.bitReg 6 .l)
  | .bit_6_atHL => .ext (.bitHL 6)
  | .bit_6_A => .ext (.bitReg 6 .a)
  | .bit_7_B => .ext (.bitReg 7 .b)
  | .bit_7_C => .ext (.bitReg 7 .c)
  | .bit_7_D => .ext (.bitReg 7 .d)
  | .bit_7_E => .ext (.bitReg 7 .e)
  | .bit_7_H => .ext (.bitReg 7 .h)
  | .bit_7_L => .ext (.bitReg 7 .l)
  | .bit_7_atHL => .ext (.bitHL 7)
  | .bit_7_A => .ext (.bitReg 7 .a)
  | .res_0_B => .ext (.resReg 0 .b)
  | .res_0_C => .ext (.resReg 0 .c)
  | .res_0_D => .ext (.resReg 0 .d)
  | .res_0_E => .ext (.resReg 0 .e)
  | .res_0_H => .ext (.resReg 0 .h)
  | .res_0_L => .ext (.resReg 0 .l)
  | .res_0_atHL => .ext (.resHL 0)
  | .res_0_A => .ext (.resReg 0 .a)
  | .res_1_B => .ext (.resReg 1 .b)
  | .res_1_C => .ext (.resReg 1 .c)
  | .res_1_D => .ext (.resReg 1 .d)
  | .res_1_E => .ext (.resReg 1 .e)
  | .res_1_H => .ext (.resReg 1 .h)
  | .res_1_L => .ext (.resReg 1 .l)
  | .res_1_atHL => .ext (.resHL 1)
  | .res_1_A => .ext (.resReg 1 .a)
  | .res_2_B => .ext (.resReg 2 .b)
  | .res_2_C => .ext (.resReg 2 .c)
  | .res_2_D => .ext (.resReg 2 .d)
  | .res_2_E => .ext (.resReg 2 .e)
  | .res_2_H => .ext (.resReg 2 .h)
  | .res_2_L => .ext (.resReg 2 .l)
  | .res_2_atHL => .ext (.resHL 2)
  | .res_2_A => .ext (.resReg 2 .a)
  | .res_3_B => .ext (.resReg 3 .b)
  | .res_3_C => .ext (.resReg 3 .c)
  | .res_3_D => .ext (.resReg 3 .d)
  | .res_3_E => .ext (.resReg 3 .e)
  | .res_3_H => .ext (.resReg 3 .h)
  | .res_3_L => .ext (.resReg 3 .l)
  | .res_3_atHL => .ext (.resHL 3)
  | .res_3_A => .ext (.resReg 3 .a)
  | .res_4_B => .ext (.resReg 4 .b)
  | .res_4_C => .ext (.resReg 4 .c)
  | .res_4_D => .ext (.resReg 4 .d)
  | .res_4_E => .ext (.resReg 4 .e)
  | .res_4_H => .ext (.resReg 4 .h)
  | .res_4_L => .ext (.resReg 4 .l)
  | .res_4_atHL => .ext (.resHL 4)
  | .res_4_A => .ext (.resReg 4 .a)
  | .res_5_B => .ext (.resReg 5 .b)
  | .res_5_C => .ext (.resReg 5 .c)
  | .res_5_D => .ext (.resReg 5 .d)
  | .res_5_E => .ext (.resReg 5 .e)
  | .res_5_H => .ext (.resReg 5 .h)
  | .res_5_L => .ext (.resReg 5 .l)
  | .res_5_atHL => .ext (.resHL 5)
  | .res_5_A => .ext (.resReg 5 .a)
  | .res_6_B => .ext (.resReg 6 .b)
  | .res_6_C => .ext (.resReg 6 .c)
  | .res_6_D => .ext (.resReg 6 .d)
  | .res_6_E => .ext (.resReg 6 .e)
  | .res_6_H => .ext (.resReg 6 .h)
  | .res_6_L => .ext (.resReg 6 .l)
  | .res_6_atHL => .ext (.resHL 6)
  | .res_6_A => .ext (.resReg 6 .a)
  | .res_7_B => .ext (.resReg 7 .b)
  | .res_7_C => .ext (.resReg 7 .c)
  | .res_7_D => .ext (.resReg 7 .d)
  | .res_7_E => .ext (.resReg 7 .e)
  | .res_7_H => .ext (.resReg 7 .h)
  | .res_7_L => .ext (.resReg 7 .l)
  | .res_7_atHL => .ext (.resHL 7)
  | .res_7_A => .ext (.resReg 7 .a)
  | .set_0_B => .ext (.setReg 0 .b)
  | .set_0_C => .ext (.setReg 0 .c)
  | .set_0_D => .ext (.setReg 0 .d)
  | .set_0_E => .ext (.setReg 0 .e)
  | .set_0_H => .ext (.setReg 0 .h)
  | .set_0_L => .ext (.setReg 0 .l)
  | .set_0_atHL => .ext (.setHL 0)
  | .set_0_A => .ext (.setReg 0 .a)
  | .set_1_B => .ext (.setReg 1 .b)
  | .set_1_C => .ext (.setReg 1 .c)
  | .set_1_D => .ext (.setReg 1 .d)
  | .set_1_E => .ext (.setReg 1 .e)
  | .set_1_H => .ext (.setReg 1 .h)
  | .set_1_L => .ext (.setReg 1 .l)
  | .set_1_atHL => .ext (.setHL 1)
  | .set_1_A => .ext (.setReg 1 .a)
  | .set_2_B => .ext (.setReg 2 .b)
  | .set_2_C => .ext (.setReg 2 .c)
  | .set_2_D => .ext (.setReg 2 .d)
  | .set_2_E => .ext (.setReg 2 .e)
  | .set_2_H => .ext (.setReg 2 .h)
  | .set_2_L => .ext (.setReg 2 .l)
  | .set_2_atHL => .ext (.setHL 2)
  | .set_2_A => .ext (.setReg 2 .a)
  | .set_3_B => .ext (.setReg 3 .b)
  | .set_3_C => .ext (.setReg 3 .c)
  | .set_3_D => .ext (.setReg 3 .d)
  | .set_3_E => .ext (.setReg 3 .e)
  | .set_3_H => .ext (.setReg 3 .h)
  | .set_3_L => .ext (.setReg 3 .l)
  | .set_3_atHL => .ext (.setHL 3)
  | .set_3_A => .ext (.setReg 3 .a)
  | .set_4_B => .ext (.setReg 4 .b)
  | .set_4_C => .ext (.setReg 4 .c)
  | .set_4_D => .ext (.setReg 4 .d)
  | .set_4_E => .ext (.setReg 4 .e)
  | .set_4_H => .ext (.setReg 4 .h)
  | .set_4_L => .ext (.setReg 4 .l)
  | .set_4_atHL => .ext (.setHL 4)
  | .set_4_A => .ext (.setReg 4 .a)
  | .set_5_B => .ext (.setReg 5 .b)
  | .set_5_C => .ext (.setReg 5 .c)
  | .set_5_D => .ext (.setReg 5 .d)
  | .set_5_E => .ext (.setReg 5 .e)
  | .set_5_H => .ext (.setReg 5 .h)
  | .set_5_L => .ext (.setReg 5 .l)
  | .set_5_atHL => .ext (.setHL 5)
  | .set_5_A => .ext (.setReg 5 .a)
  | .set_6_B => .ext (.setReg 6 .b)
  | .set_6_C => .ext (.setReg 6 .c)
  | .set_6_D => .ext (.setReg 6 .d)
  | .set_6_E => .ext (.setReg 6 .e)
  | .set_6_H => .ext (.setReg 6 .h)
  | .set_6_L => .ext (.setReg 6 .l)
  | .set_6_atHL => .ext (.setHL 6)
  | .set_6_A => .ext (.setReg 6 .a)
  | .set_7_B => .ext (.setReg 7 .b)
  | .set_7_C => .ext (.setReg 7 .c)
  | .set_7_D => .ext (.setReg 7 .d)
  | .set_7_E => .ext (.setReg 7 .e)
  | .set_7_H => .ext (.setReg 7 .h)
  | .set_7_L => .ext (.setReg 7 .l)
  | .set_7_atHL => .ext (.setHL 7)
  | .set_7_A => .ext (.setReg 7 .a)

/-! ## Lengths -/

/-- How many operand bytes follow the opcode (the formats of R71; column `len` of R84 less the opcode). The prefix's
`cb` is an opcode byte and is not counted. -/
def Form.operandCount : Form → Nat
  | .ldRegImm .. | .ldHLImm .. | .ldhAImm .. | .ldhImmA .. | .ldHLSPOff .. | .aluImm .. | .addSPOff ..
  | .jr .. | .jrCond .. | .stop .. => 1
  | .ldAAbs .. | .ldAbsA .. | .ldPairImm .. | .ldAbsSP .. | .jp .. | .jpCond .. | .call .. | .callCond .. => 2
  | .ldRegReg .. | .ldRegHL .. | .ldHLReg .. | .ldABC | .ldADE | .ldBCA | .ldDEA | .ldhAC | .ldhCA
  | .ldHLIncA | .ldAHLInc | .ldHLDecA | .ldAHLDec | .ldSPHL | .aluReg .. | .aluHL .. | .incReg .. | .incHL
  | .decReg .. | .decHL | .daa | .scf | .ccf | .addHLPair .. | .incPair .. | .decPair .. | .cpl
  | .rlca | .rrca | .rla | .rra | .jpHL | .ret | .retCond .. | .reti | .rst .. | .push .. | .pop ..
  | .nop | .halt | .ei | .di | .prefixCB | .illegal .. | .ext .. => 0

/-- How many opcode bytes the instruction has (R70): two when the prefix stands first. -/
def Form.opcodeCount : Form → Nat
  | .ext .. => 2
  | .ldRegReg .. | .ldRegImm .. | .ldRegHL .. | .ldHLReg .. | .ldHLImm .. | .ldABC | .ldADE | .ldBCA | .ldDEA
  | .ldAAbs .. | .ldAbsA .. | .ldhAC | .ldhCA | .ldhAImm .. | .ldhImmA .. | .ldHLIncA | .ldAHLInc | .ldHLDecA
  | .ldAHLDec | .ldPairImm .. | .ldAbsSP .. | .ldSPHL | .ldHLSPOff .. | .aluReg .. | .aluHL .. | .aluImm ..
  | .incReg .. | .incHL | .decReg .. | .decHL | .daa | .scf | .ccf | .addHLPair .. | .incPair .. | .decPair ..
  | .addSPOff .. | .cpl | .rlca | .rrca | .rla | .rra | .jp .. | .jpCond .. | .jpHL | .jr .. | .jrCond ..
  | .call .. | .callCond .. | .ret | .retCond .. | .reti | .rst .. | .push .. | .pop .. | .nop | .halt
  | .stop .. | .ei | .di | .prefixCB | .illegal .. => 1

/-- The instruction's length in bytes (R70, R73). -/
def Instr.length (i : Instr) : Nat := i.form.opcodeCount + i.form.operandCount

/-! ## Decoding -/

/-- R85: the extended table, by the fields of `cb`. -/
def decodeExt (cb : Byte) : ExtForm :=
  match (fieldX cb).toNat, getRegisterFromByte cb with
  | 0, .reg r => .rotReg (Rot.ofCode (fieldY cb)) r
  | 0, .atHL => .rotHL (Rot.ofCode (fieldY cb))
  | 1, .reg r => .bitReg (indexOfCode (fieldY cb)) r
  | 1, .atHL => .bitHL (indexOfCode (fieldY cb))
  | 2, .reg r => .resReg (indexOfCode (fieldY cb)) r
  | 2, .atHL => .resHL (indexOfCode (fieldY cb))
  | _, .reg r => .setReg (indexOfCode (fieldY cb)) r
  | _, .atHL => .setHL (indexOfCode (fieldY cb))

/-- R84, `x = 0`. The operand bytes, where there are any, are `n1` then `n2` (R75, R76: low byte first). -/
def decodeX0 (y z : BitVec 3) (n1 n2 : Byte) : Form :=
  match z.toNat with
  | 0 =>
    match y.toNat with
    | 0 => .nop
    | 1 => .ldAbsSP (wordOf n2 n1)
    | 2 => .stop n1
    | 3 => .jr n1
    | _ => .jrCond (Cond.ofCode y) n1
  | 1 => if fieldQ y then .addHLPair (Pair.ofCode (fieldP y)) else .ldPairImm (Pair.ofCode (fieldP y)) (wordOf n2 n1)
  | 2 =>
    match y.toNat with
    | 0 => .ldBCA
    | 1 => .ldABC
    | 2 => .ldDEA
    | 3 => .ldADE
    | 4 => .ldHLIncA
    | 5 => .ldAHLInc
    | 6 => .ldHLDecA
    | _ => .ldAHLDec
  | 3 => if fieldQ y then .decPair (Pair.ofCode (fieldP y)) else .incPair (Pair.ofCode (fieldP y))
  | 4 =>
    match Operand8.ofCode y with
    | .reg r => .incReg r
    | .atHL => .incHL
  | 5 =>
    match Operand8.ofCode y with
    | .reg r => .decReg r
    | .atHL => .decHL
  | 6 =>
    match Operand8.ofCode y with
    | .reg r => .ldRegImm r n1
    | .atHL => .ldHLImm n1
  | _ =>
    match y.toNat with
    | 0 => .rlca
    | 1 => .rrca
    | 2 => .rla
    | 3 => .rra
    | 4 => .daa
    | 5 => .cpl
    | 6 => .scf
    | _ => .ccf

/-- R84, `x = 1`: destination `y`, source `z`. -/
def decodeX1 (y z : BitVec 3) : Form :=
  match Operand8.ofCode y, Operand8.ofCode z with
  | .reg dst, .reg r => .ldRegReg dst r
  | .reg dst, .atHL => .ldRegHL dst
  | .atHL, .reg r => .ldHLReg r
  | .atHL, .atHL => .halt

/-- R84, `x = 2`: operation `y`, source `z`. -/
def decodeX2 (y z : BitVec 3) : Form :=
  match Operand8.ofCode z with
  | .reg r => .aluReg (Alu.ofCode y) r
  | .atHL => .aluHL (Alu.ofCode y)

/-- R84, `x = 3`. -/
def decodeX3 (y z : BitVec 3) (n1 n2 : Byte) : Form :=
  match z.toNat with
  | 0 =>
    match y.toNat with
    | 4 => .ldhImmA n1
    | 5 => .addSPOff n1
    | 6 => .ldhAImm n1
    | 7 => .ldHLSPOff n1
    | _ => .retCond (Cond.ofCode y)
  | 1 =>
    match y.toNat with
    | 1 => .ret
    | 3 => .reti
    | 5 => .jpHL
    | 7 => .ldSPHL
    | _ => .pop (StackPair.ofCode (fieldP y))
  | 2 =>
    match y.toNat with
    | 4 => .ldhCA
    | 5 => .ldAbsA (wordOf n2 n1)
    | 6 => .ldhAC
    | 7 => .ldAAbs (wordOf n2 n1)
    | _ => .jpCond (Cond.ofCode y) (wordOf n2 n1)
  | 3 =>
    match y.toNat with
    | 0 => .jp (wordOf n2 n1)
    | 1 => .prefixCB
    | 2 => .illegal .d3
    | 3 => .illegal .db
    | 4 => .illegal .e3
    | 5 => .illegal .eb
    | 6 => .di
    | _ => .ei
  | 4 =>
    match y.toNat with
    | 4 => .illegal .e4
    | 5 => .illegal .ec
    | 6 => .illegal .f4
    | 7 => .illegal .fc
    | _ => .callCond (Cond.ofCode y) (wordOf n2 n1)
  | 5 =>
    match y.toNat with
    | 1 => .call (wordOf n2 n1)
    | 3 => .illegal .dd
    | 5 => .illegal .ed
    | 7 => .illegal .fd
    | _ => .push (StackPair.ofCode (fieldP y))
  | 6 => .aluImm (Alu.ofCode y) n1
  | _ => .rst (indexOfCode y)

/-- R84: the base table, by the fields of the first byte, with the operand bytes that follow it. -/
def decodeBase (op n1 n2 : Byte) : Form :=
  match (fieldX op).toNat with
  | 0 => decodeX0 (fieldY op) (fieldZ op) n1 n2
  | 1 => decodeX1 (fieldY op) (fieldZ op)
  | 2 => decodeX2 (fieldY op) (fieldZ op)
  | _ => decodeX3 (fieldY op) (fieldZ op) n1 n2

/-- How many operand bytes the first byte asks for (R73: the length is a function of the first byte alone). -/
def operandBytes (op : Byte) : Nat := (decodeBase op 0 0).operandCount

/-- Why a byte list holds no instruction. Every code point is a row of the table, so a list can only be too short.
Neither reason can arise in `step`, whose fetch never runs out of bytes (R20, R44). -/
inductive DecodeError where
  /-- The list is empty. -/
  | noBytes
  /-- The list ends before the operand bytes that `op` asks for. -/
  | missingOperand (op : Byte)
deriving DecidableEq, Repr

/-- Decode the instruction at the head of a byte list and give the bytes after it (R73). A list that is the prefix byte alone
is the row `PREFIX CB`, an instruction whose `cb` is still to be fetched (R265); a prefix with a byte after it is an extended
row, whatever that byte is (R74). -/
def decode : List Byte → Except DecodeError (Instr × List Byte)
  | [] => .error .noBytes
  | op :: rest =>
    if op = Config.prefixByte then
      match rest with
      | [] => .ok (.prefix_CB, [])
      | cb :: rest => .ok ((decodeExt cb).toInstr, rest)
    else
      match operandBytes op, rest with
      | 0, rest => .ok ((decodeBase op 0 0).toInstr, rest)
      | 1, n1 :: rest => .ok ((decodeBase op n1 0).toInstr, rest)
      | 2, n1 :: n2 :: rest => .ok ((decodeBase op n1 n2).toInstr, rest)
      | _, _ => .error (.missingOperand op)

/-- The instruction at the head of a byte list, where there is one. -/
def decodeHead? (bytes : List Byte) : Option Instr :=
  match decode bytes with
  | .ok (i, _) => some i
  | .error _ => none

/-! ## Encoding -/

/-- R85: the byte `cb` of an extended-table family member. -/
def ExtForm.byte : ExtForm → Byte
  | .rotReg k r => joinXYZ 0 k.code r.code
  | .rotHL k => joinXYZ 0 k.code atHLCode
  | .bitReg i r => joinXYZ 1 (indexCode i) r.code
  | .bitHL i => joinXYZ 1 (indexCode i) atHLCode
  | .resReg i r => joinXYZ 2 (indexCode i) r.code
  | .resHL i => joinXYZ 2 (indexCode i) atHLCode
  | .setReg i r => joinXYZ 3 (indexCode i) r.code
  | .setHL i => joinXYZ 3 (indexCode i) atHLCode

/-- The three-bit field with `cc` in its low bits and `top` above them (R81: `y` is `cc` or `cc + 4`). -/
def condField (top : Bool) (cc : Cond) : BitVec 3 := BitVec.ofBool top ++ cc.code

/-- R84: the bytes of a family member, opcode first, a 16-bit operand low byte first (R76). -/
def Form.encode : Form → List Byte
  | .ldRegReg dst r => [joinXYZ 1 dst.code r.code]
  | .ldRegImm r n => [joinXYZ 0 r.code 6, n]
  | .ldRegHL r => [joinXYZ 1 r.code atHLCode]
  | .ldHLReg r => [joinXYZ 1 atHLCode r.code]
  | .ldHLImm n => [joinXYZ 0 atHLCode 6, n]
  | .ldABC => [0x0A]
  | .ldADE => [0x1A]
  | .ldBCA => [0x02]
  | .ldDEA => [0x12]
  | .ldAAbs addr => [0xFA, loByte addr, hiByte addr]
  | .ldAbsA addr => [0xEA, loByte addr, hiByte addr]
  | .ldhAC => [0xF2]
  | .ldhCA => [0xE2]
  | .ldhAImm n => [0xF0, n]
  | .ldhImmA n => [0xE0, n]
  | .ldHLIncA => [0x22]
  | .ldAHLInc => [0x2A]
  | .ldHLDecA => [0x32]
  | .ldAHLDec => [0x3A]
  | .ldPairImm p w => [joinXYZ 0 (joinPQ p.code false) 1, loByte w, hiByte w]
  | .ldAbsSP addr => [0x08, loByte addr, hiByte addr]
  | .ldSPHL => [0xF9]
  | .ldHLSPOff e => [0xF8, e]
  | .aluReg op r => [joinXYZ 2 op.code r.code]
  | .aluHL op => [joinXYZ 2 op.code atHLCode]
  | .aluImm op n => [joinXYZ 3 op.code 6, n]
  | .incReg r => [joinXYZ 0 r.code 4]
  | .incHL => [joinXYZ 0 atHLCode 4]
  | .decReg r => [joinXYZ 0 r.code 5]
  | .decHL => [joinXYZ 0 atHLCode 5]
  | .daa => [0x27]
  | .scf => [0x37]
  | .ccf => [0x3F]
  | .addHLPair p => [joinXYZ 0 (joinPQ p.code true) 1]
  | .incPair p => [joinXYZ 0 (joinPQ p.code false) 3]
  | .decPair p => [joinXYZ 0 (joinPQ p.code true) 3]
  | .addSPOff e => [0xE8, e]
  | .cpl => [0x2F]
  | .rlca => [0x07]
  | .rrca => [0x0F]
  | .rla => [0x17]
  | .rra => [0x1F]
  | .jp addr => [0xC3, loByte addr, hiByte addr]
  | .jpCond cc addr => [joinXYZ 3 (condField false cc) 2, loByte addr, hiByte addr]
  | .jpHL => [0xE9]
  | .jr e => [0x18, e]
  | .jrCond cc e => [joinXYZ 0 (condField true cc) 0, e]
  | .call addr => [0xCD, loByte addr, hiByte addr]
  | .callCond cc addr => [joinXYZ 3 (condField false cc) 4, loByte addr, hiByte addr]
  | .ret => [0xC9]
  | .retCond cc => [joinXYZ 3 (condField false cc) 0]
  | .reti => [0xD9]
  | .rst i => [joinXYZ 3 (indexCode i) 7]
  | .push p => [joinXYZ 3 (joinPQ p.code false) 5]
  | .pop p => [joinXYZ 3 (joinPQ p.code false) 1]
  | .nop => [0x00]
  | .halt => [0x76]
  | .stop n => [0x10, n]
  | .ei => [0xFB]
  | .di => [0xF3]
  | .prefixCB => [Config.prefixByte]
  | .illegal k => [k.byte]
  | .ext x => [Config.prefixByte, x.byte]

/-- The bytes of an instruction, in the order they stand in memory. -/
def encode (i : Instr) : List Byte := i.form.encode

/-! ## The opcode table's numbers -/

/-- The first `k` bytes of a number, least significant first. -/
def bytesOfNat : Nat → Nat → List Byte
  | 0, _ => []
  | k + 1, w => BitVec.ofNat 8 w :: bytesOfNat k (w / 256)

/-- The bytes of the first `nbits` bits of a row of spec/opcode_table.json. An extended row is the 16-bit number
`{first byte, second byte}` (INDEX.md, conventions of opcode_table.json), so the prefix is its upper byte;
every other number has its first byte in bits 7:0. -/
def tableBytes (nbits w : Nat) : List Byte :=
  if nbits = 16 ∧ w / 256 = Config.prefixByte.toNat then [Config.prefixByte, BitVec.ofNat 8 w]
  else bytesOfNat (nbits / 8) w

/-- What the decoder reads from a table row's bits, its operand bytes zero: the fewest zero bytes after the row's own that make a
whole instruction, R70 allowing at most two. -/
def decodeTableWord (nbits w : Nat) : Option Instr :=
  decodeHead? (tableBytes nbits w) <|> decodeHead? (tableBytes nbits w ++ [0]) <|>
    decodeHead? (tableBytes nbits w ++ [0, 0])

end Sys2Proof
end

