-- ==== Sys2Proof/Machine/Ops.lean ====
section
/-! DEFINITION. The named operations over registers, memory and the stack, the fetch of a byte, and taking an exception. -/

namespace Sys2Proof.Machine

/-! ## One region's storage -/

/-- What an offset that a region's storage does not list reads as. Every byte of a region is supplied when the region is added (R42,
92_eei_decisions.md D21), so this is the representation of a stored 0x00 and says nothing about power-on contents. -/
def unlistedByte : Byte := 0x00#8

/-- The stored byte at a local offset. -/
def Memory.read : Memory → Nat → Byte
  | [], _ => unlistedByte
  | (k, w) :: m, i => if k = i then w else Memory.read m i

/-- Storage with one byte replaced, in canonical form again. -/
def Memory.write : Memory → Nat → Byte → Memory
  | [], i, v => if v = unlistedByte then [] else [(i, v)]
  | (k, w) :: m, i, v =>
    if i < k then (if v = unlistedByte then (k, w) :: m else (i, v) :: (k, w) :: m)
    else if i = k then (if v = unlistedByte then m else (i, v) :: m)
    else (k, w) :: Memory.write m i v

/-- Offsets rise strictly from `lo` on, and no listed byte is `unlistedByte`. -/
def Memory.wfFrom : Nat → Memory → Bool
  | _, [] => true
  | lo, (k, w) :: m => decide (lo ≤ k) && decide (w ≠ unlistedByte) && Memory.wfFrom (k + 1) m

/-- The canonical form: equal contents are equal lists. -/
def Memory.wf (m : Memory) : Bool := Memory.wfFrom 0 m

/-- Every listed offset lies below `size`. -/
def Memory.within (size : Nat) (m : Memory) : Bool := m.all (fun cell => decide (cell.1 < size))

/-- The canonical form of a byte block whose first byte has offset `k`. -/
def Memory.ofBytesFrom : Nat → List Byte → Memory
  | _, [] => []
  | k, v :: vs => if v = unlistedByte then Memory.ofBytesFrom (k + 1) vs else (k, v) :: Memory.ofBytesFrom (k + 1) vs

/-- The storage that a host's byte block becomes. -/
def Memory.ofBytes (block : List Byte) : Memory := Memory.ofBytesFrom 0 block

/-- `end - start + 1`, the length of the storage block (R40). -/
def Region.size (r : Region) : Nat := r.last.toNat - r.first.toNat + 1

/-- `start <= addr <= end` (R40). -/
def Region.contains (r : Region) (addr : Word) : Bool :=
  decide (r.first.toNat ≤ addr.toNat) && decide (addr.toNat ≤ r.last.toNat)

/-- The local offset `addr - start` (R40). -/
def Region.offset (r : Region) (addr : Word) : Nat := addr.toNat - r.first.toNat

/-- The region's byte for an address, whatever its permission bits. -/
def Region.load (r : Region) (addr : Word) : Byte := Memory.read r.storage (r.offset addr)

/-- The region with the byte for an address replaced, whatever its permission bits. -/
def Region.store (r : Region) (addr : Word) (v : Byte) : Region :=
  { r with storage := Memory.write r.storage (r.offset addr) v }

/-- An admissible region (R40, 92_eei_decisions.md D5): `start <= end`, and storage that is canonical and no longer than the region. -/
def Region.wf (r : Region) : Bool :=
  decide (r.first.toNat ≤ r.last.toNat) && Memory.wf r.storage && Memory.within r.size r.storage

/-! ## The Bus -/

/-- The lookup of R41: the index of the first region, in registration order, that contains the address. -/
def Bus.resolve : List Region → Word → Option Nat
  | [], _ => none
  | r :: rest, addr => if r.contains addr then some 0 else (Bus.resolve rest addr).map (· + 1)

/-- `read(addr)` (R44). Only the first match counts: an unreadable one is not skipped (R41, 90_conflicts.md C5). -/
def Bus.read (bus : List Region) (addr : Word) : Byte :=
  match Bus.resolve bus addr with
  | none => Config.unmappedRead
  | some i =>
    match bus[i]? with
    | none => Config.unmappedRead
    | some r => if r.readable then r.load addr else Config.unmappedRead

/-- `write(addr, value)` (R45): one stored byte, or nothing. -/
def Bus.write (bus : List Region) (addr : Word) (v : Byte) : List Region :=
  match Bus.resolve bus addr with
  | none => bus
  | some i => bus.modify i (fun r => if r.writable then r.store addr v else r)

/-- Every region is admissible. -/
def Bus.wf (bus : List Region) : Bool := bus.all Region.wf

/-- `MemRead(addr, 1)`. -/
def State.read (s : State) (addr : Word) : Byte := Bus.read s.bus addr

/-- `MemWrite(addr, 1, v)`. -/
def State.write (s : State) (addr : Word) (v : Byte) : State := { s with bus := Bus.write s.bus addr v }

/-- `read16(addr)` (R47): the low byte at `addr`, the high byte at `addr + 1` modulo 65536, each resolved on its own (R49). -/
def State.read16 (s : State) (addr : Word) : Word := wordOf (s.read (addr + 1)) (s.read addr)

/-- `write16(addr, value)` (R48): the low byte first, each byte resolved and checked on its own (R49). -/
def State.write16 (s : State) (addr : Word) (w : Word) : State :=
  (s.write addr (loByte w)).write (addr + 1) (hiByte w)

/-! ## Registers -/

/-- `x[r]` for a general register (R10). -/
def State.reg (s : State) : Reg8 → Byte
  | .b => s.b | .c => s.c | .d => s.d | .e => s.e | .h => s.h | .l => s.l | .a => s.a

/-- `x[r] <- v` for a general register (R10). -/
def State.setReg (s : State) (r : Reg8) (v : Byte) : State :=
  match r with
  | .b => { s with b := v }
  | .c => { s with c := v }
  | .d => { s with d := v }
  | .e => { s with e := v }
  | .h => { s with h := v }
  | .l => { s with l := v }
  | .a => { s with a := v }

/-- F as a byte: `{Z, N, H, C, 0, 0, 0, 0}` (R12, R16). -/
def Flags.toByte (f : Flags) : Byte :=
  BitVec.ofBool f.z ++ BitVec.ofBool f.n ++ BitVec.ofBool f.h ++ BitVec.ofBool f.c ++ 0#4

/-- What a write of a byte to F stores: its top nibble (R12). -/
def Flags.ofByte (v : Byte) : Flags := ⟨v.getLsbD 7, v.getLsbD 6, v.getLsbD 5, v.getLsbD 4⟩

/-- `x[F]`. -/
def State.f (s : State) : Byte := s.flags.toByte

/-- `x[F] <- v`. -/
def State.setF (s : State) (v : Byte) : State := { s with flags := Flags.ofByte v }

/-- `xx[rp]` (R13, R79): the composition of the current halves, or SP. -/
def State.pair (s : State) : Pair → Word
  | .bc => wordOf s.b s.c
  | .de => wordOf s.d s.e
  | .hl => wordOf s.h s.l
  | .sp => s.sp

/-- `xx[rp] <- w` (R14, R79). -/
def State.setPair (s : State) (p : Pair) (w : Word) : State :=
  match p with
  | .bc => { s with b := hiByte w, c := loByte w }
  | .de => { s with d := hiByte w, e := loByte w }
  | .hl => { s with h := hiByte w, l := loByte w }
  | .sp => { s with sp := w }

/-- `xx[HL]`. -/
def State.hl (s : State) : Word := wordOf s.h s.l

/-- `xx[HL] <- w`. -/
def State.setHL (s : State) (w : Word) : State := { s with h := hiByte w, l := loByte w }

/-- `xx[rp2]` (R13, R80). -/
def State.stackPair (s : State) : StackPair → Word
  | .bc => wordOf s.b s.c
  | .de => wordOf s.d s.e
  | .hl => wordOf s.h s.l
  | .af => wordOf s.a s.f

/-- `xx[rp2] <- w` (R14, R80); for AF the low half goes through F (R12). -/
def State.setStackPair (s : State) (p : StackPair) (w : Word) : State :=
  match p with
  | .bc => { s with b := hiByte w, c := loByte w }
  | .de => { s with d := hiByte w, e := loByte w }
  | .hl => { s with h := hiByte w, l := loByte w }
  | .af => { s with a := hiByte w, flags := Flags.ofByte (loByte w) }

/-! ## Fetch and stack -/

/-- `fetch()` (R20): the byte at PC, and PC one further modulo 65536. -/
def fetch (s : State) : Byte × State := (s.read s.pc, { s with pc := s.pc + 1 })

/-- `push(b)` (R250): SP moves even where the write is dropped. -/
def push (v : Byte) (s : State) : State := { s with sp := s.sp - 1 }.write (s.sp - 1) v

/-- `pop()` (R251). -/
def pop (s : State) : Byte × State := (s.read s.sp, { s with sp := s.sp + 1 })

/-- `push16(w)` (R252): the high byte first. -/
def push16 (w : Word) (s : State) : State := push (loByte w) (push (hiByte w) s)

/-- `pop16()` (R253): the low byte first. -/
def pop16 (s : State) : Word × State :=
  let (lo, s) := pop s
  let (hi, s) := pop s
  (wordOf hi lo, s)

/-! ## Exceptions -/

/-- Taking the CORE's one synchronous exception, `raise IllegalOpcode(op)` (R280): mode becomes Locked, and nothing else happens:
no handler, no vector, no saved state; `op` is recorded nowhere. -/
def raiseIllegalOpcode (_op : IllegalCode) (s : State) : State := { s with mode := .locked }

/-- Trap entry, the moves of `interrupt(v)` once its preconditions hold (R286). -/
def enterInterrupt (v : Word) (s : State) : State :=
  { push16 s.pc { s with ime := false, eiPending := false, mode := .running } with pc := v }

/-- Trap return, RETI (R239, R289): PC is popped and IME set at once. -/
def returnFromInterrupt (s : State) : State :=
  let (w, s) := pop16 s
  { s with pc := w, ime := true, eiPending := false }

end Sys2Proof.Machine
end

