-- ==== Sys2Proof/Machine/Operands.lean ====
section
/-! DEFINITION. The operand forms: the register-or-memory operand of R78, the signed displacement, the LDH address, the condition,
the RST target and the bit of a bit index. -/

namespace Sys2Proof.Machine

/-- `opnd8(code)` (R78): a register, or the byte at HL. -/
def State.operand (s : State) : Operand8 → Byte
  | .reg r => s.reg r
  | .atHL => s.read s.hl

/-- `opnd8(code) <- v` (R78). -/
def State.setOperand (s : State) (o : Operand8) (v : Byte) : State :=
  match o with
  | .reg r => s.setReg r v
  | .atHL => s.write s.hl v

/-- `sext_16(b)` (00_scope.md section 5). -/
def sext16 (v : Byte) : Word := BitVec.ofNat 16 (if v.toNat < 128 then v.toNat else v.toNat + 0xFF00)

/-- `0xFF00 + a8`, which never wraps (R75, R111). -/
def highAddr (v : Byte) : Word := Config.highPage + BitVec.ofNat 16 v.toNat

/-- `cond(cc)` (R81). -/
def condHolds (cc : Cond) (f : Flags) : Bool :=
  match cc with
  | .nz => !f.z
  | .z => f.z
  | .nc => !f.c
  | .c => f.c

/-- The RST target `y * 8` (R83). -/
def restartTarget (y : Index8) : Word := BitVec.ofNat 16 (y.val * 8)

/-- `1 << b` at 8 bits (R192, R194). -/
def bitMask (i : Index8) : Byte := 1#8 <<< i.val

end Sys2Proof.Machine
end

