-- ==== Sys2Proof/Machine/Arith16.lean ====
section
/-! DEFINITION. 16-bit arithmetic (43_arith16.md). -/

namespace Sys2Proof.Machine

/-- `ADD HL,rp` (R170), `v` the value of the pair. -/
def addToHL (v : Word) (s : State) : State :=
  { s.setHL (add16 s.hl v s.flags).1 with flags := (add16 s.hl v s.flags).2 }

/-- `INC rp` (R171): no flag changes. -/
def incPair (p : Pair) (s : State) : State := s.setPair p (s.pair p + 1)

/-- `DEC rp` (R172): no flag changes. -/
def decPair (p : Pair) (s : State) : State := s.setPair p (s.pair p - 1)

/-- `ADD SP,e8` (R173). -/
def addSPOffset (e : Byte) (s : State) : State :=
  { s with sp := s.sp + sext16 e, flags := spOffsetFlags s.sp e }

/-- `ADD HL,BC` (R170). -/
def exec_add_HL_BC (s : State) : Result := .next (addToHL (s.pair .bc) s)

/-- `ADD HL,DE` (R170). -/
def exec_add_HL_DE (s : State) : Result := .next (addToHL (s.pair .de) s)

/-- `ADD HL,HL` (R170). -/
def exec_add_HL_HL (s : State) : Result := .next (addToHL (s.pair .hl) s)

/-- `ADD HL,SP` (R170). -/
def exec_add_HL_SP (s : State) : Result := .next (addToHL (s.pair .sp) s)

/-- `INC BC` (R171). -/
def exec_inc_BC (s : State) : Result := .next (incPair .bc s)

/-- `INC DE` (R171). -/
def exec_inc_DE (s : State) : Result := .next (incPair .de s)

/-- `INC HL` (R171). -/
def exec_inc_HL (s : State) : Result := .next (incPair .hl s)

/-- `INC SP` (R171). -/
def exec_inc_SP (s : State) : Result := .next (incPair .sp s)

/-- `DEC BC` (R172). -/
def exec_dec_BC (s : State) : Result := .next (decPair .bc s)

/-- `DEC DE` (R172). -/
def exec_dec_DE (s : State) : Result := .next (decPair .de s)

/-- `DEC HL` (R172). -/
def exec_dec_HL (s : State) : Result := .next (decPair .hl s)

/-- `DEC SP` (R172). -/
def exec_dec_SP (s : State) : Result := .next (decPair .sp s)

/-- `ADD SP,e8` (R173). -/
def exec_add_SP_e8 (e : Byte) (s : State) : Result := .next (addSPOffset e s)

end Sys2Proof.Machine
end

