-- ==== Sys2Proof/Machine/Arith8.lean ====
section
/-! DEFINITION. 8-bit arithmetic (42_arith8.md). Each two-operand operation takes its operand's value, so that the register, `(HL)` and
immediate forms share it. -/

namespace Sys2Proof.Machine

/-- ADD (R140 to R142). -/
def addToA (v : Byte) (s : State) : State :=
  { s with a := (add8 s.a v false).1, flags := (add8 s.a v false).2 }

/-- ADC (R143 to R145): C is read before it is written. -/
def addCarryToA (v : Byte) (s : State) : State :=
  { s with a := (add8 s.a v s.flags.c).1, flags := (add8 s.a v s.flags.c).2 }

/-- SUB (R146 to R148). -/
def subFromA (v : Byte) (s : State) : State :=
  { s with a := (sub8 s.a v false).1, flags := (sub8 s.a v false).2 }

/-- SBC (R149 to R151): C is read before it is written. -/
def subCarryFromA (v : Byte) (s : State) : State :=
  { s with a := (sub8 s.a v s.flags.c).1, flags := (sub8 s.a v s.flags.c).2 }

/-- CP (R152 to R154): the flags of SUB, the result discarded. -/
def compareA (v : Byte) (s : State) : State := { s with flags := (sub8 s.a v false).2 }

/-- `INC r` (R155). -/
def incReg (r : Reg8) (s : State) : State :=
  { s.setReg r (inc8 (s.reg r) s.flags).1 with flags := (inc8 (s.reg r) s.flags).2 }

/-- `DEC r` (R157). -/
def decReg (r : Reg8) (s : State) : State :=
  { s.setReg r (dec8 (s.reg r) s.flags).1 with flags := (dec8 (s.reg r) s.flags).2 }

/-- `INC (HL)` (R156): the flags are those of the byte read, even where the write is dropped. -/
def incMem (s : State) : State :=
  { s.write s.hl (inc8 (s.read s.hl) s.flags).1 with flags := (inc8 (s.read s.hl) s.flags).2 }

/-- `DEC (HL)` (R158). -/
def decMem (s : State) : State :=
  { s.write s.hl (dec8 (s.read s.hl) s.flags).1 with flags := (dec8 (s.read s.hl) s.flags).2 }

/-- DAA (R159). -/
def decimalAdjust (s : State) : State := { s with a := (daa8 s.a s.flags).1, flags := (daa8 s.a s.flags).2 }

/-- SCF (R160). -/
def setCarry (s : State) : State := { s with flags := { s.flags with n := false, h := false, c := true } }

/-- CCF (R161). -/
def complementCarry (s : State) : State :=
  { s with flags := { s.flags with n := false, h := false, c := !s.flags.c } }

/-- `ADD A,B` (R140). -/
def exec_add_A_B (s : State) : Result := .next (addToA (s.reg .b) s)

/-- `ADD A,C` (R140). -/
def exec_add_A_C (s : State) : Result := .next (addToA (s.reg .c) s)

/-- `ADD A,D` (R140). -/
def exec_add_A_D (s : State) : Result := .next (addToA (s.reg .d) s)

/-- `ADD A,E` (R140). -/
def exec_add_A_E (s : State) : Result := .next (addToA (s.reg .e) s)

/-- `ADD A,H` (R140). -/
def exec_add_A_H (s : State) : Result := .next (addToA (s.reg .h) s)

/-- `ADD A,L` (R140). -/
def exec_add_A_L (s : State) : Result := .next (addToA (s.reg .l) s)

/-- `ADD A,A` (R140). -/
def exec_add_A_A (s : State) : Result := .next (addToA (s.reg .a) s)

/-- `ADC A,B` (R143). -/
def exec_adc_A_B (s : State) : Result := .next (addCarryToA (s.reg .b) s)

/-- `ADC A,C` (R143). -/
def exec_adc_A_C (s : State) : Result := .next (addCarryToA (s.reg .c) s)

/-- `ADC A,D` (R143). -/
def exec_adc_A_D (s : State) : Result := .next (addCarryToA (s.reg .d) s)

/-- `ADC A,E` (R143). -/
def exec_adc_A_E (s : State) : Result := .next (addCarryToA (s.reg .e) s)

/-- `ADC A,H` (R143). -/
def exec_adc_A_H (s : State) : Result := .next (addCarryToA (s.reg .h) s)

/-- `ADC A,L` (R143). -/
def exec_adc_A_L (s : State) : Result := .next (addCarryToA (s.reg .l) s)

/-- `ADC A,A` (R143). -/
def exec_adc_A_A (s : State) : Result := .next (addCarryToA (s.reg .a) s)

/-- `SUB A,B` (R146). -/
def exec_sub_A_B (s : State) : Result := .next (subFromA (s.reg .b) s)

/-- `SUB A,C` (R146). -/
def exec_sub_A_C (s : State) : Result := .next (subFromA (s.reg .c) s)

/-- `SUB A,D` (R146). -/
def exec_sub_A_D (s : State) : Result := .next (subFromA (s.reg .d) s)

/-- `SUB A,E` (R146). -/
def exec_sub_A_E (s : State) : Result := .next (subFromA (s.reg .e) s)

/-- `SUB A,H` (R146). -/
def exec_sub_A_H (s : State) : Result := .next (subFromA (s.reg .h) s)

/-- `SUB A,L` (R146). -/
def exec_sub_A_L (s : State) : Result := .next (subFromA (s.reg .l) s)

/-- `SUB A,A` (R146). -/
def exec_sub_A_A (s : State) : Result := .next (subFromA (s.reg .a) s)

/-- `SBC A,B` (R149). -/
def exec_sbc_A_B (s : State) : Result := .next (subCarryFromA (s.reg .b) s)

/-- `SBC A,C` (R149). -/
def exec_sbc_A_C (s : State) : Result := .next (subCarryFromA (s.reg .c) s)

/-- `SBC A,D` (R149). -/
def exec_sbc_A_D (s : State) : Result := .next (subCarryFromA (s.reg .d) s)

/-- `SBC A,E` (R149). -/
def exec_sbc_A_E (s : State) : Result := .next (subCarryFromA (s.reg .e) s)

/-- `SBC A,H` (R149). -/
def exec_sbc_A_H (s : State) : Result := .next (subCarryFromA (s.reg .h) s)

/-- `SBC A,L` (R149). -/
def exec_sbc_A_L (s : State) : Result := .next (subCarryFromA (s.reg .l) s)

/-- `SBC A,A` (R149). -/
def exec_sbc_A_A (s : State) : Result := .next (subCarryFromA (s.reg .a) s)

/-- `CP A,B` (R152). -/
def exec_cp_A_B (s : State) : Result := .next (compareA (s.reg .b) s)

/-- `CP A,C` (R152). -/
def exec_cp_A_C (s : State) : Result := .next (compareA (s.reg .c) s)

/-- `CP A,D` (R152). -/
def exec_cp_A_D (s : State) : Result := .next (compareA (s.reg .d) s)

/-- `CP A,E` (R152). -/
def exec_cp_A_E (s : State) : Result := .next (compareA (s.reg .e) s)

/-- `CP A,H` (R152). -/
def exec_cp_A_H (s : State) : Result := .next (compareA (s.reg .h) s)

/-- `CP A,L` (R152). -/
def exec_cp_A_L (s : State) : Result := .next (compareA (s.reg .l) s)

/-- `CP A,A` (R152). -/
def exec_cp_A_A (s : State) : Result := .next (compareA (s.reg .a) s)

/-- `ADD A,(HL)` (R141). -/
def exec_add_A_atHL (s : State) : Result := .next (addToA (s.read s.hl) s)

/-- `ADC A,(HL)` (R144). -/
def exec_adc_A_atHL (s : State) : Result := .next (addCarryToA (s.read s.hl) s)

/-- `SUB A,(HL)` (R147). -/
def exec_sub_A_atHL (s : State) : Result := .next (subFromA (s.read s.hl) s)

/-- `SBC A,(HL)` (R150). -/
def exec_sbc_A_atHL (s : State) : Result := .next (subCarryFromA (s.read s.hl) s)

/-- `CP A,(HL)` (R153). -/
def exec_cp_A_atHL (s : State) : Result := .next (compareA (s.read s.hl) s)

/-- `ADD A,d8` (R142). -/
def exec_add_A_d8 (n : Byte) (s : State) : Result := .next (addToA n s)

/-- `ADC A,d8` (R145). -/
def exec_adc_A_d8 (n : Byte) (s : State) : Result := .next (addCarryToA n s)

/-- `SUB A,d8` (R148). -/
def exec_sub_A_d8 (n : Byte) (s : State) : Result := .next (subFromA n s)

/-- `SBC A,d8` (R151). -/
def exec_sbc_A_d8 (n : Byte) (s : State) : Result := .next (subCarryFromA n s)

/-- `CP A,d8` (R154). -/
def exec_cp_A_d8 (n : Byte) (s : State) : Result := .next (compareA n s)

/-- `INC B` (R155). -/
def exec_inc_B (s : State) : Result := .next (incReg .b s)

/-- `INC C` (R155). -/
def exec_inc_C (s : State) : Result := .next (incReg .c s)

/-- `INC D` (R155). -/
def exec_inc_D (s : State) : Result := .next (incReg .d s)

/-- `INC E` (R155). -/
def exec_inc_E (s : State) : Result := .next (incReg .e s)

/-- `INC H` (R155). -/
def exec_inc_H (s : State) : Result := .next (incReg .h s)

/-- `INC L` (R155). -/
def exec_inc_L (s : State) : Result := .next (incReg .l s)

/-- `INC A` (R155). -/
def exec_inc_A (s : State) : Result := .next (incReg .a s)

/-- `INC (HL)` (R156). -/
def exec_inc_atHL (s : State) : Result := .next (incMem s)

/-- `DEC B` (R157). -/
def exec_dec_B (s : State) : Result := .next (decReg .b s)

/-- `DEC C` (R157). -/
def exec_dec_C (s : State) : Result := .next (decReg .c s)

/-- `DEC D` (R157). -/
def exec_dec_D (s : State) : Result := .next (decReg .d s)

/-- `DEC E` (R157). -/
def exec_dec_E (s : State) : Result := .next (decReg .e s)

/-- `DEC H` (R157). -/
def exec_dec_H (s : State) : Result := .next (decReg .h s)

/-- `DEC L` (R157). -/
def exec_dec_L (s : State) : Result := .next (decReg .l s)

/-- `DEC A` (R157). -/
def exec_dec_A (s : State) : Result := .next (decReg .a s)

/-- `DEC (HL)` (R158). -/
def exec_dec_atHL (s : State) : Result := .next (decMem s)

/-- `DAA` (R159). -/
def exec_daa (s : State) : Result := .next (decimalAdjust s)

/-- `SCF` (R160). -/
def exec_scf (s : State) : Result := .next (setCarry s)

/-- `CCF` (R161). -/
def exec_ccf (s : State) : Result := .next (complementCarry s)

end Sys2Proof.Machine
end

