-- ==== Sys2Proof/Machine/Bitwise.lean ====
section
/-! DEFINITION. Bitwise operations (44_bitwise.md). -/

namespace Sys2Proof.Machine

/-- AND (R180 to R182): H is set. -/
def andA (v : Byte) (s : State) : State := { s with a := s.a &&& v, flags := logicFlags (s.a &&& v) true }

/-- XOR (R183 to R185). -/
def xorA (v : Byte) (s : State) : State := { s with a := s.a ^^^ v, flags := logicFlags (s.a ^^^ v) false }

/-- OR (R186 to R188). -/
def orA (v : Byte) (s : State) : State := { s with a := s.a ||| v, flags := logicFlags (s.a ||| v) false }

/-- CPL (R189): Z and C are kept. -/
def complementA (s : State) : State :=
  { s with a := s.a ^^^ 0xFF#8, flags := { s.flags with n := true, h := true } }

/-- BIT (R190, R191), `v` the operand's value; nothing but flags is written. -/
def testBit (i : Index8) (v : Byte) (s : State) : State := { s with flags := bitFlags v i s.flags }

/-- `RES b,r` (R192). -/
def clearBitReg (i : Index8) (r : Reg8) (s : State) : State := s.setReg r (s.reg r &&& ~~~bitMask i)

/-- `RES b,(HL)` (R193). -/
def clearBitMem (i : Index8) (s : State) : State := s.write s.hl (s.read s.hl &&& ~~~bitMask i)

/-- `SET b,r` (R194). -/
def setBitReg (i : Index8) (r : Reg8) (s : State) : State := s.setReg r (s.reg r ||| bitMask i)

/-- `SET b,(HL)` (R195). -/
def setBitMem (i : Index8) (s : State) : State := s.write s.hl (s.read s.hl ||| bitMask i)

/-- `AND A,B` (R180). -/
def exec_and_A_B (s : State) : Result := .next (andA (s.reg .b) s)

/-- `AND A,C` (R180). -/
def exec_and_A_C (s : State) : Result := .next (andA (s.reg .c) s)

/-- `AND A,D` (R180). -/
def exec_and_A_D (s : State) : Result := .next (andA (s.reg .d) s)

/-- `AND A,E` (R180). -/
def exec_and_A_E (s : State) : Result := .next (andA (s.reg .e) s)

/-- `AND A,H` (R180). -/
def exec_and_A_H (s : State) : Result := .next (andA (s.reg .h) s)

/-- `AND A,L` (R180). -/
def exec_and_A_L (s : State) : Result := .next (andA (s.reg .l) s)

/-- `AND A,A` (R180). -/
def exec_and_A_A (s : State) : Result := .next (andA (s.reg .a) s)

/-- `XOR A,B` (R183). -/
def exec_xor_A_B (s : State) : Result := .next (xorA (s.reg .b) s)

/-- `XOR A,C` (R183). -/
def exec_xor_A_C (s : State) : Result := .next (xorA (s.reg .c) s)

/-- `XOR A,D` (R183). -/
def exec_xor_A_D (s : State) : Result := .next (xorA (s.reg .d) s)

/-- `XOR A,E` (R183). -/
def exec_xor_A_E (s : State) : Result := .next (xorA (s.reg .e) s)

/-- `XOR A,H` (R183). -/
def exec_xor_A_H (s : State) : Result := .next (xorA (s.reg .h) s)

/-- `XOR A,L` (R183). -/
def exec_xor_A_L (s : State) : Result := .next (xorA (s.reg .l) s)

/-- `XOR A,A` (R183). -/
def exec_xor_A_A (s : State) : Result := .next (xorA (s.reg .a) s)

/-- `OR A,B` (R186). -/
def exec_or_A_B (s : State) : Result := .next (orA (s.reg .b) s)

/-- `OR A,C` (R186). -/
def exec_or_A_C (s : State) : Result := .next (orA (s.reg .c) s)

/-- `OR A,D` (R186). -/
def exec_or_A_D (s : State) : Result := .next (orA (s.reg .d) s)

/-- `OR A,E` (R186). -/
def exec_or_A_E (s : State) : Result := .next (orA (s.reg .e) s)

/-- `OR A,H` (R186). -/
def exec_or_A_H (s : State) : Result := .next (orA (s.reg .h) s)

/-- `OR A,L` (R186). -/
def exec_or_A_L (s : State) : Result := .next (orA (s.reg .l) s)

/-- `OR A,A` (R186). -/
def exec_or_A_A (s : State) : Result := .next (orA (s.reg .a) s)

/-- `AND A,(HL)` (R181). -/
def exec_and_A_atHL (s : State) : Result := .next (andA (s.read s.hl) s)

/-- `XOR A,(HL)` (R184). -/
def exec_xor_A_atHL (s : State) : Result := .next (xorA (s.read s.hl) s)

/-- `OR A,(HL)` (R187). -/
def exec_or_A_atHL (s : State) : Result := .next (orA (s.read s.hl) s)

/-- `AND A,d8` (R182). -/
def exec_and_A_d8 (n : Byte) (s : State) : Result := .next (andA n s)

/-- `XOR A,d8` (R185). -/
def exec_xor_A_d8 (n : Byte) (s : State) : Result := .next (xorA n s)

/-- `OR A,d8` (R188). -/
def exec_or_A_d8 (n : Byte) (s : State) : Result := .next (orA n s)

/-- `CPL` (R189). -/
def exec_cpl (s : State) : Result := .next (complementA s)

/-- `BIT 0,B` (R190). -/
def exec_bit_0_B (s : State) : Result := .next (testBit 0 (s.reg .b) s)

/-- `BIT 0,C` (R190). -/
def exec_bit_0_C (s : State) : Result := .next (testBit 0 (s.reg .c) s)

/-- `BIT 0,D` (R190). -/
def exec_bit_0_D (s : State) : Result := .next (testBit 0 (s.reg .d) s)

/-- `BIT 0,E` (R190). -/
def exec_bit_0_E (s : State) : Result := .next (testBit 0 (s.reg .e) s)

/-- `BIT 0,H` (R190). -/
def exec_bit_0_H (s : State) : Result := .next (testBit 0 (s.reg .h) s)

/-- `BIT 0,L` (R190). -/
def exec_bit_0_L (s : State) : Result := .next (testBit 0 (s.reg .l) s)

/-- `BIT 0,A` (R190). -/
def exec_bit_0_A (s : State) : Result := .next (testBit 0 (s.reg .a) s)

/-- `BIT 1,B` (R190). -/
def exec_bit_1_B (s : State) : Result := .next (testBit 1 (s.reg .b) s)

/-- `BIT 1,C` (R190). -/
def exec_bit_1_C (s : State) : Result := .next (testBit 1 (s.reg .c) s)

/-- `BIT 1,D` (R190). -/
def exec_bit_1_D (s : State) : Result := .next (testBit 1 (s.reg .d) s)

/-- `BIT 1,E` (R190). -/
def exec_bit_1_E (s : State) : Result := .next (testBit 1 (s.reg .e) s)

/-- `BIT 1,H` (R190). -/
def exec_bit_1_H (s : State) : Result := .next (testBit 1 (s.reg .h) s)

/-- `BIT 1,L` (R190). -/
def exec_bit_1_L (s : State) : Result := .next (testBit 1 (s.reg .l) s)

/-- `BIT 1,A` (R190). -/
def exec_bit_1_A (s : State) : Result := .next (testBit 1 (s.reg .a) s)

/-- `BIT 2,B` (R190). -/
def exec_bit_2_B (s : State) : Result := .next (testBit 2 (s.reg .b) s)

/-- `BIT 2,C` (R190). -/
def exec_bit_2_C (s : State) : Result := .next (testBit 2 (s.reg .c) s)

/-- `BIT 2,D` (R190). -/
def exec_bit_2_D (s : State) : Result := .next (testBit 2 (s.reg .d) s)

/-- `BIT 2,E` (R190). -/
def exec_bit_2_E (s : State) : Result := .next (testBit 2 (s.reg .e) s)

/-- `BIT 2,H` (R190). -/
def exec_bit_2_H (s : State) : Result := .next (testBit 2 (s.reg .h) s)

/-- `BIT 2,L` (R190). -/
def exec_bit_2_L (s : State) : Result := .next (testBit 2 (s.reg .l) s)

/-- `BIT 2,A` (R190). -/
def exec_bit_2_A (s : State) : Result := .next (testBit 2 (s.reg .a) s)

/-- `BIT 3,B` (R190). -/
def exec_bit_3_B (s : State) : Result := .next (testBit 3 (s.reg .b) s)

/-- `BIT 3,C` (R190). -/
def exec_bit_3_C (s : State) : Result := .next (testBit 3 (s.reg .c) s)

/-- `BIT 3,D` (R190). -/
def exec_bit_3_D (s : State) : Result := .next (testBit 3 (s.reg .d) s)

/-- `BIT 3,E` (R190). -/
def exec_bit_3_E (s : State) : Result := .next (testBit 3 (s.reg .e) s)

/-- `BIT 3,H` (R190). -/
def exec_bit_3_H (s : State) : Result := .next (testBit 3 (s.reg .h) s)

/-- `BIT 3,L` (R190). -/
def exec_bit_3_L (s : State) : Result := .next (testBit 3 (s.reg .l) s)

/-- `BIT 3,A` (R190). -/
def exec_bit_3_A (s : State) : Result := .next (testBit 3 (s.reg .a) s)

/-- `BIT 4,B` (R190). -/
def exec_bit_4_B (s : State) : Result := .next (testBit 4 (s.reg .b) s)

/-- `BIT 4,C` (R190). -/
def exec_bit_4_C (s : State) : Result := .next (testBit 4 (s.reg .c) s)

/-- `BIT 4,D` (R190). -/
def exec_bit_4_D (s : State) : Result := .next (testBit 4 (s.reg .d) s)

/-- `BIT 4,E` (R190). -/
def exec_bit_4_E (s : State) : Result := .next (testBit 4 (s.reg .e) s)

/-- `BIT 4,H` (R190). -/
def exec_bit_4_H (s : State) : Result := .next (testBit 4 (s.reg .h) s)

/-- `BIT 4,L` (R190). -/
def exec_bit_4_L (s : State) : Result := .next (testBit 4 (s.reg .l) s)

/-- `BIT 4,A` (R190). -/
def exec_bit_4_A (s : State) : Result := .next (testBit 4 (s.reg .a) s)

/-- `BIT 5,B` (R190). -/
def exec_bit_5_B (s : State) : Result := .next (testBit 5 (s.reg .b) s)

/-- `BIT 5,C` (R190). -/
def exec_bit_5_C (s : State) : Result := .next (testBit 5 (s.reg .c) s)

/-- `BIT 5,D` (R190). -/
def exec_bit_5_D (s : State) : Result := .next (testBit 5 (s.reg .d) s)

/-- `BIT 5,E` (R190). -/
def exec_bit_5_E (s : State) : Result := .next (testBit 5 (s.reg .e) s)

/-- `BIT 5,H` (R190). -/
def exec_bit_5_H (s : State) : Result := .next (testBit 5 (s.reg .h) s)

/-- `BIT 5,L` (R190). -/
def exec_bit_5_L (s : State) : Result := .next (testBit 5 (s.reg .l) s)

/-- `BIT 5,A` (R190). -/
def exec_bit_5_A (s : State) : Result := .next (testBit 5 (s.reg .a) s)

/-- `BIT 6,B` (R190). -/
def exec_bit_6_B (s : State) : Result := .next (testBit 6 (s.reg .b) s)

/-- `BIT 6,C` (R190). -/
def exec_bit_6_C (s : State) : Result := .next (testBit 6 (s.reg .c) s)

/-- `BIT 6,D` (R190). -/
def exec_bit_6_D (s : State) : Result := .next (testBit 6 (s.reg .d) s)

/-- `BIT 6,E` (R190). -/
def exec_bit_6_E (s : State) : Result := .next (testBit 6 (s.reg .e) s)

/-- `BIT 6,H` (R190). -/
def exec_bit_6_H (s : State) : Result := .next (testBit 6 (s.reg .h) s)

/-- `BIT 6,L` (R190). -/
def exec_bit_6_L (s : State) : Result := .next (testBit 6 (s.reg .l) s)

/-- `BIT 6,A` (R190). -/
def exec_bit_6_A (s : State) : Result := .next (testBit 6 (s.reg .a) s)

/-- `BIT 7,B` (R190). -/
def exec_bit_7_B (s : State) : Result := .next (testBit 7 (s.reg .b) s)

/-- `BIT 7,C` (R190). -/
def exec_bit_7_C (s : State) : Result := .next (testBit 7 (s.reg .c) s)

/-- `BIT 7,D` (R190). -/
def exec_bit_7_D (s : State) : Result := .next (testBit 7 (s.reg .d) s)

/-- `BIT 7,E` (R190). -/
def exec_bit_7_E (s : State) : Result := .next (testBit 7 (s.reg .e) s)

/-- `BIT 7,H` (R190). -/
def exec_bit_7_H (s : State) : Result := .next (testBit 7 (s.reg .h) s)

/-- `BIT 7,L` (R190). -/
def exec_bit_7_L (s : State) : Result := .next (testBit 7 (s.reg .l) s)

/-- `BIT 7,A` (R190). -/
def exec_bit_7_A (s : State) : Result := .next (testBit 7 (s.reg .a) s)

/-- `BIT 0,(HL)` (R191). -/
def exec_bit_0_atHL (s : State) : Result := .next (testBit 0 (s.read s.hl) s)

/-- `BIT 1,(HL)` (R191). -/
def exec_bit_1_atHL (s : State) : Result := .next (testBit 1 (s.read s.hl) s)

/-- `BIT 2,(HL)` (R191). -/
def exec_bit_2_atHL (s : State) : Result := .next (testBit 2 (s.read s.hl) s)

/-- `BIT 3,(HL)` (R191). -/
def exec_bit_3_atHL (s : State) : Result := .next (testBit 3 (s.read s.hl) s)

/-- `BIT 4,(HL)` (R191). -/
def exec_bit_4_atHL (s : State) : Result := .next (testBit 4 (s.read s.hl) s)

/-- `BIT 5,(HL)` (R191). -/
def exec_bit_5_atHL (s : State) : Result := .next (testBit 5 (s.read s.hl) s)

/-- `BIT 6,(HL)` (R191). -/
def exec_bit_6_atHL (s : State) : Result := .next (testBit 6 (s.read s.hl) s)

/-- `BIT 7,(HL)` (R191). -/
def exec_bit_7_atHL (s : State) : Result := .next (testBit 7 (s.read s.hl) s)

/-- `RES 0,B` (R192). -/
def exec_res_0_B (s : State) : Result := .next (clearBitReg 0 .b s)

/-- `RES 0,C` (R192). -/
def exec_res_0_C (s : State) : Result := .next (clearBitReg 0 .c s)

/-- `RES 0,D` (R192). -/
def exec_res_0_D (s : State) : Result := .next (clearBitReg 0 .d s)

/-- `RES 0,E` (R192). -/
def exec_res_0_E (s : State) : Result := .next (clearBitReg 0 .e s)

/-- `RES 0,H` (R192). -/
def exec_res_0_H (s : State) : Result := .next (clearBitReg 0 .h s)

/-- `RES 0,L` (R192). -/
def exec_res_0_L (s : State) : Result := .next (clearBitReg 0 .l s)

/-- `RES 0,A` (R192). -/
def exec_res_0_A (s : State) : Result := .next (clearBitReg 0 .a s)

/-- `RES 1,B` (R192). -/
def exec_res_1_B (s : State) : Result := .next (clearBitReg 1 .b s)

/-- `RES 1,C` (R192). -/
def exec_res_1_C (s : State) : Result := .next (clearBitReg 1 .c s)

/-- `RES 1,D` (R192). -/
def exec_res_1_D (s : State) : Result := .next (clearBitReg 1 .d s)

/-- `RES 1,E` (R192). -/
def exec_res_1_E (s : State) : Result := .next (clearBitReg 1 .e s)

/-- `RES 1,H` (R192). -/
def exec_res_1_H (s : State) : Result := .next (clearBitReg 1 .h s)

/-- `RES 1,L` (R192). -/
def exec_res_1_L (s : State) : Result := .next (clearBitReg 1 .l s)

/-- `RES 1,A` (R192). -/
def exec_res_1_A (s : State) : Result := .next (clearBitReg 1 .a s)

/-- `RES 2,B` (R192). -/
def exec_res_2_B (s : State) : Result := .next (clearBitReg 2 .b s)

/-- `RES 2,C` (R192). -/
def exec_res_2_C (s : State) : Result := .next (clearBitReg 2 .c s)

/-- `RES 2,D` (R192). -/
def exec_res_2_D (s : State) : Result := .next (clearBitReg 2 .d s)

/-- `RES 2,E` (R192). -/
def exec_res_2_E (s : State) : Result := .next (clearBitReg 2 .e s)

/-- `RES 2,H` (R192). -/
def exec_res_2_H (s : State) : Result := .next (clearBitReg 2 .h s)

/-- `RES 2,L` (R192). -/
def exec_res_2_L (s : State) : Result := .next (clearBitReg 2 .l s)

/-- `RES 2,A` (R192). -/
def exec_res_2_A (s : State) : Result := .next (clearBitReg 2 .a s)

/-- `RES 3,B` (R192). -/
def exec_res_3_B (s : State) : Result := .next (clearBitReg 3 .b s)

/-- `RES 3,C` (R192). -/
def exec_res_3_C (s : State) : Result := .next (clearBitReg 3 .c s)

/-- `RES 3,D` (R192). -/
def exec_res_3_D (s : State) : Result := .next (clearBitReg 3 .d s)

/-- `RES 3,E` (R192). -/
def exec_res_3_E (s : State) : Result := .next (clearBitReg 3 .e s)

/-- `RES 3,H` (R192). -/
def exec_res_3_H (s : State) : Result := .next (clearBitReg 3 .h s)

/-- `RES 3,L` (R192). -/
def exec_res_3_L (s : State) : Result := .next (clearBitReg 3 .l s)

/-- `RES 3,A` (R192). -/
def exec_res_3_A (s : State) : Result := .next (clearBitReg 3 .a s)

/-- `RES 4,B` (R192). -/
def exec_res_4_B (s : State) : Result := .next (clearBitReg 4 .b s)

/-- `RES 4,C` (R192). -/
def exec_res_4_C (s : State) : Result := .next (clearBitReg 4 .c s)

/-- `RES 4,D` (R192). -/
def exec_res_4_D (s : State) : Result := .next (clearBitReg 4 .d s)

/-- `RES 4,E` (R192). -/
def exec_res_4_E (s : State) : Result := .next (clearBitReg 4 .e s)

/-- `RES 4,H` (R192). -/
def exec_res_4_H (s : State) : Result := .next (clearBitReg 4 .h s)

/-- `RES 4,L` (R192). -/
def exec_res_4_L (s : State) : Result := .next (clearBitReg 4 .l s)

/-- `RES 4,A` (R192). -/
def exec_res_4_A (s : State) : Result := .next (clearBitReg 4 .a s)

/-- `RES 5,B` (R192). -/
def exec_res_5_B (s : State) : Result := .next (clearBitReg 5 .b s)

/-- `RES 5,C` (R192). -/
def exec_res_5_C (s : State) : Result := .next (clearBitReg 5 .c s)

/-- `RES 5,D` (R192). -/
def exec_res_5_D (s : State) : Result := .next (clearBitReg 5 .d s)

/-- `RES 5,E` (R192). -/
def exec_res_5_E (s : State) : Result := .next (clearBitReg 5 .e s)

/-- `RES 5,H` (R192). -/
def exec_res_5_H (s : State) : Result := .next (clearBitReg 5 .h s)

/-- `RES 5,L` (R192). -/
def exec_res_5_L (s : State) : Result := .next (clearBitReg 5 .l s)

/-- `RES 5,A` (R192). -/
def exec_res_5_A (s : State) : Result := .next (clearBitReg 5 .a s)

/-- `RES 6,B` (R192). -/
def exec_res_6_B (s : State) : Result := .next (clearBitReg 6 .b s)

/-- `RES 6,C` (R192). -/
def exec_res_6_C (s : State) : Result := .next (clearBitReg 6 .c s)

/-- `RES 6,D` (R192). -/
def exec_res_6_D (s : State) : Result := .next (clearBitReg 6 .d s)

/-- `RES 6,E` (R192). -/
def exec_res_6_E (s : State) : Result := .next (clearBitReg 6 .e s)

/-- `RES 6,H` (R192). -/
def exec_res_6_H (s : State) : Result := .next (clearBitReg 6 .h s)

/-- `RES 6,L` (R192). -/
def exec_res_6_L (s : State) : Result := .next (clearBitReg 6 .l s)

/-- `RES 6,A` (R192). -/
def exec_res_6_A (s : State) : Result := .next (clearBitReg 6 .a s)

/-- `RES 7,B` (R192). -/
def exec_res_7_B (s : State) : Result := .next (clearBitReg 7 .b s)

/-- `RES 7,C` (R192). -/
def exec_res_7_C (s : State) : Result := .next (clearBitReg 7 .c s)

/-- `RES 7,D` (R192). -/
def exec_res_7_D (s : State) : Result := .next (clearBitReg 7 .d s)

/-- `RES 7,E` (R192). -/
def exec_res_7_E (s : State) : Result := .next (clearBitReg 7 .e s)

/-- `RES 7,H` (R192). -/
def exec_res_7_H (s : State) : Result := .next (clearBitReg 7 .h s)

/-- `RES 7,L` (R192). -/
def exec_res_7_L (s : State) : Result := .next (clearBitReg 7 .l s)

/-- `RES 7,A` (R192). -/
def exec_res_7_A (s : State) : Result := .next (clearBitReg 7 .a s)

/-- `RES 0,(HL)` (R193). -/
def exec_res_0_atHL (s : State) : Result := .next (clearBitMem 0 s)

/-- `RES 1,(HL)` (R193). -/
def exec_res_1_atHL (s : State) : Result := .next (clearBitMem 1 s)

/-- `RES 2,(HL)` (R193). -/
def exec_res_2_atHL (s : State) : Result := .next (clearBitMem 2 s)

/-- `RES 3,(HL)` (R193). -/
def exec_res_3_atHL (s : State) : Result := .next (clearBitMem 3 s)

/-- `RES 4,(HL)` (R193). -/
def exec_res_4_atHL (s : State) : Result := .next (clearBitMem 4 s)

/-- `RES 5,(HL)` (R193). -/
def exec_res_5_atHL (s : State) : Result := .next (clearBitMem 5 s)

/-- `RES 6,(HL)` (R193). -/
def exec_res_6_atHL (s : State) : Result := .next (clearBitMem 6 s)

/-- `RES 7,(HL)` (R193). -/
def exec_res_7_atHL (s : State) : Result := .next (clearBitMem 7 s)

/-- `SET 0,B` (R194). -/
def exec_set_0_B (s : State) : Result := .next (setBitReg 0 .b s)

/-- `SET 0,C` (R194). -/
def exec_set_0_C (s : State) : Result := .next (setBitReg 0 .c s)

/-- `SET 0,D` (R194). -/
def exec_set_0_D (s : State) : Result := .next (setBitReg 0 .d s)

/-- `SET 0,E` (R194). -/
def exec_set_0_E (s : State) : Result := .next (setBitReg 0 .e s)

/-- `SET 0,H` (R194). -/
def exec_set_0_H (s : State) : Result := .next (setBitReg 0 .h s)

/-- `SET 0,L` (R194). -/
def exec_set_0_L (s : State) : Result := .next (setBitReg 0 .l s)

/-- `SET 0,A` (R194). -/
def exec_set_0_A (s : State) : Result := .next (setBitReg 0 .a s)

/-- `SET 1,B` (R194). -/
def exec_set_1_B (s : State) : Result := .next (setBitReg 1 .b s)

/-- `SET 1,C` (R194). -/
def exec_set_1_C (s : State) : Result := .next (setBitReg 1 .c s)

/-- `SET 1,D` (R194). -/
def exec_set_1_D (s : State) : Result := .next (setBitReg 1 .d s)

/-- `SET 1,E` (R194). -/
def exec_set_1_E (s : State) : Result := .next (setBitReg 1 .e s)

/-- `SET 1,H` (R194). -/
def exec_set_1_H (s : State) : Result := .next (setBitReg 1 .h s)

/-- `SET 1,L` (R194). -/
def exec_set_1_L (s : State) : Result := .next (setBitReg 1 .l s)

/-- `SET 1,A` (R194). -/
def exec_set_1_A (s : State) : Result := .next (setBitReg 1 .a s)

/-- `SET 2,B` (R194). -/
def exec_set_2_B (s : State) : Result := .next (setBitReg 2 .b s)

/-- `SET 2,C` (R194). -/
def exec_set_2_C (s : State) : Result := .next (setBitReg 2 .c s)

/-- `SET 2,D` (R194). -/
def exec_set_2_D (s : State) : Result := .next (setBitReg 2 .d s)

/-- `SET 2,E` (R194). -/
def exec_set_2_E (s : State) : Result := .next (setBitReg 2 .e s)

/-- `SET 2,H` (R194). -/
def exec_set_2_H (s : State) : Result := .next (setBitReg 2 .h s)

/-- `SET 2,L` (R194). -/
def exec_set_2_L (s : State) : Result := .next (setBitReg 2 .l s)

/-- `SET 2,A` (R194). -/
def exec_set_2_A (s : State) : Result := .next (setBitReg 2 .a s)

/-- `SET 3,B` (R194). -/
def exec_set_3_B (s : State) : Result := .next (setBitReg 3 .b s)

/-- `SET 3,C` (R194). -/
def exec_set_3_C (s : State) : Result := .next (setBitReg 3 .c s)

/-- `SET 3,D` (R194). -/
def exec_set_3_D (s : State) : Result := .next (setBitReg 3 .d s)

/-- `SET 3,E` (R194). -/
def exec_set_3_E (s : State) : Result := .next (setBitReg 3 .e s)

/-- `SET 3,H` (R194). -/
def exec_set_3_H (s : State) : Result := .next (setBitReg 3 .h s)

/-- `SET 3,L` (R194). -/
def exec_set_3_L (s : State) : Result := .next (setBitReg 3 .l s)

/-- `SET 3,A` (R194). -/
def exec_set_3_A (s : State) : Result := .next (setBitReg 3 .a s)

/-- `SET 4,B` (R194). -/
def exec_set_4_B (s : State) : Result := .next (setBitReg 4 .b s)

/-- `SET 4,C` (R194). -/
def exec_set_4_C (s : State) : Result := .next (setBitReg 4 .c s)

/-- `SET 4,D` (R194). -/
def exec_set_4_D (s : State) : Result := .next (setBitReg 4 .d s)

/-- `SET 4,E` (R194). -/
def exec_set_4_E (s : State) : Result := .next (setBitReg 4 .e s)

/-- `SET 4,H` (R194). -/
def exec_set_4_H (s : State) : Result := .next (setBitReg 4 .h s)

/-- `SET 4,L` (R194). -/
def exec_set_4_L (s : State) : Result := .next (setBitReg 4 .l s)

/-- `SET 4,A` (R194). -/
def exec_set_4_A (s : State) : Result := .next (setBitReg 4 .a s)

/-- `SET 5,B` (R194). -/
def exec_set_5_B (s : State) : Result := .next (setBitReg 5 .b s)

/-- `SET 5,C` (R194). -/
def exec_set_5_C (s : State) : Result := .next (setBitReg 5 .c s)

/-- `SET 5,D` (R194). -/
def exec_set_5_D (s : State) : Result := .next (setBitReg 5 .d s)

/-- `SET 5,E` (R194). -/
def exec_set_5_E (s : State) : Result := .next (setBitReg 5 .e s)

/-- `SET 5,H` (R194). -/
def exec_set_5_H (s : State) : Result := .next (setBitReg 5 .h s)

/-- `SET 5,L` (R194). -/
def exec_set_5_L (s : State) : Result := .next (setBitReg 5 .l s)

/-- `SET 5,A` (R194). -/
def exec_set_5_A (s : State) : Result := .next (setBitReg 5 .a s)

/-- `SET 6,B` (R194). -/
def exec_set_6_B (s : State) : Result := .next (setBitReg 6 .b s)

/-- `SET 6,C` (R194). -/
def exec_set_6_C (s : State) : Result := .next (setBitReg 6 .c s)

/-- `SET 6,D` (R194). -/
def exec_set_6_D (s : State) : Result := .next (setBitReg 6 .d s)

/-- `SET 6,E` (R194). -/
def exec_set_6_E (s : State) : Result := .next (setBitReg 6 .e s)

/-- `SET 6,H` (R194). -/
def exec_set_6_H (s : State) : Result := .next (setBitReg 6 .h s)

/-- `SET 6,L` (R194). -/
def exec_set_6_L (s : State) : Result := .next (setBitReg 6 .l s)

/-- `SET 6,A` (R194). -/
def exec_set_6_A (s : State) : Result := .next (setBitReg 6 .a s)

/-- `SET 7,B` (R194). -/
def exec_set_7_B (s : State) : Result := .next (setBitReg 7 .b s)

/-- `SET 7,C` (R194). -/
def exec_set_7_C (s : State) : Result := .next (setBitReg 7 .c s)

/-- `SET 7,D` (R194). -/
def exec_set_7_D (s : State) : Result := .next (setBitReg 7 .d s)

/-- `SET 7,E` (R194). -/
def exec_set_7_E (s : State) : Result := .next (setBitReg 7 .e s)

/-- `SET 7,H` (R194). -/
def exec_set_7_H (s : State) : Result := .next (setBitReg 7 .h s)

/-- `SET 7,L` (R194). -/
def exec_set_7_L (s : State) : Result := .next (setBitReg 7 .l s)

/-- `SET 7,A` (R194). -/
def exec_set_7_A (s : State) : Result := .next (setBitReg 7 .a s)

/-- `SET 0,(HL)` (R195). -/
def exec_set_0_atHL (s : State) : Result := .next (setBitMem 0 s)

/-- `SET 1,(HL)` (R195). -/
def exec_set_1_atHL (s : State) : Result := .next (setBitMem 1 s)

/-- `SET 2,(HL)` (R195). -/
def exec_set_2_atHL (s : State) : Result := .next (setBitMem 2 s)

/-- `SET 3,(HL)` (R195). -/
def exec_set_3_atHL (s : State) : Result := .next (setBitMem 3 s)

/-- `SET 4,(HL)` (R195). -/
def exec_set_4_atHL (s : State) : Result := .next (setBitMem 4 s)

/-- `SET 5,(HL)` (R195). -/
def exec_set_5_atHL (s : State) : Result := .next (setBitMem 5 s)

/-- `SET 6,(HL)` (R195). -/
def exec_set_6_atHL (s : State) : Result := .next (setBitMem 6 s)

/-- `SET 7,(HL)` (R195). -/
def exec_set_7_atHL (s : State) : Result := .next (setBitMem 7 s)

end Sys2Proof.Machine
end

