-- ==== Sys2Proof/Machine/Control.lean ====
section
/-! DEFINITION. Control flow (46_control_flow.md). PC is the address after all bytes of the instruction (R21). -/

namespace Sys2Proof.Machine

/-- `pc <- target` (R230, R232). -/
def jump (target : Word) (s : State) : State := { s with pc := target }

/-- `JP cc,a16` (R231). -/
def jumpIf (cc : Cond) (target : Word) (s : State) : State := if condHolds cc s.flags then jump target s else s

/-- `JR e8` (R233). -/
def jumpRel (e : Byte) (s : State) : State := jump (s.pc + sext16 e) s

/-- `JR cc,e8` (R234). -/
def jumpRelIf (cc : Cond) (e : Byte) (s : State) : State := if condHolds cc s.flags then jumpRel e s else s

/-- `CALL a16` (R235): push the return address, jump. -/
def call (target : Word) (s : State) : State := jump target (push16 s.pc s)

/-- `CALL cc,a16` (R236): nothing is pushed when the condition fails. -/
def callIf (cc : Cond) (target : Word) (s : State) : State := if condHolds cc s.flags then call target s else s

/-- `RET` (R237). -/
def ret (s : State) : State := jump (pop16 s).1 (pop16 s).2

/-- `RET cc` (R238): nothing is popped when the condition fails. -/
def retIf (cc : Cond) (s : State) : State := if condHolds cc s.flags then ret s else s

/-- `RST n` (R240). -/
def restart (y : Index8) (s : State) : State := call (restartTarget y) s

/-- `JP a16` (R230). -/
def exec_jp_a16 (addr : Word) (s : State) : Result := .next (jump addr s)

/-- `JP NZ,a16` (R231). -/
def exec_jp_NZ_a16 (addr : Word) (s : State) : Result := .next (jumpIf .nz addr s)

/-- `JP Z,a16` (R231). -/
def exec_jp_Z_a16 (addr : Word) (s : State) : Result := .next (jumpIf .z addr s)

/-- `JP NC,a16` (R231). -/
def exec_jp_NC_a16 (addr : Word) (s : State) : Result := .next (jumpIf .nc addr s)

/-- `JP C,a16` (R231). -/
def exec_jp_C_a16 (addr : Word) (s : State) : Result := .next (jumpIf .c addr s)

/-- `JP HL` (R232). -/
def exec_jp_HL (s : State) : Result := .next (jump s.hl s)

/-- `JR e8` (R233). -/
def exec_jr_e8 (e : Byte) (s : State) : Result := .next (jumpRel e s)

/-- `JR NZ,e8` (R234). -/
def exec_jr_NZ_e8 (e : Byte) (s : State) : Result := .next (jumpRelIf .nz e s)

/-- `JR Z,e8` (R234). -/
def exec_jr_Z_e8 (e : Byte) (s : State) : Result := .next (jumpRelIf .z e s)

/-- `JR NC,e8` (R234). -/
def exec_jr_NC_e8 (e : Byte) (s : State) : Result := .next (jumpRelIf .nc e s)

/-- `JR C,e8` (R234). -/
def exec_jr_C_e8 (e : Byte) (s : State) : Result := .next (jumpRelIf .c e s)

/-- `CALL a16` (R235). -/
def exec_call_a16 (addr : Word) (s : State) : Result := .next (call addr s)

/-- `CALL NZ,a16` (R236). -/
def exec_call_NZ_a16 (addr : Word) (s : State) : Result := .next (callIf .nz addr s)

/-- `CALL Z,a16` (R236). -/
def exec_call_Z_a16 (addr : Word) (s : State) : Result := .next (callIf .z addr s)

/-- `CALL NC,a16` (R236). -/
def exec_call_NC_a16 (addr : Word) (s : State) : Result := .next (callIf .nc addr s)

/-- `CALL C,a16` (R236). -/
def exec_call_C_a16 (addr : Word) (s : State) : Result := .next (callIf .c addr s)

/-- `RET` (R237). -/
def exec_ret (s : State) : Result := .next (ret s)

/-- `RET NZ` (R238). -/
def exec_ret_NZ (s : State) : Result := .next (retIf .nz s)

/-- `RET Z` (R238). -/
def exec_ret_Z (s : State) : Result := .next (retIf .z s)

/-- `RET NC` (R238). -/
def exec_ret_NC (s : State) : Result := .next (retIf .nc s)

/-- `RET C` (R238). -/
def exec_ret_C (s : State) : Result := .next (retIf .c s)

/-- `RETI` (R239). -/
def exec_reti (s : State) : Result := .next (returnFromInterrupt s)

/-- `RST 0x00` (R240). -/
def exec_rst_00 (s : State) : Result := .next (restart 0 s)

/-- `RST 0x08` (R240). -/
def exec_rst_08 (s : State) : Result := .next (restart 1 s)

/-- `RST 0x10` (R240). -/
def exec_rst_10 (s : State) : Result := .next (restart 2 s)

/-- `RST 0x18` (R240). -/
def exec_rst_18 (s : State) : Result := .next (restart 3 s)

/-- `RST 0x20` (R240). -/
def exec_rst_20 (s : State) : Result := .next (restart 4 s)

/-- `RST 0x28` (R240). -/
def exec_rst_28 (s : State) : Result := .next (restart 5 s)

/-- `RST 0x30` (R240). -/
def exec_rst_30 (s : State) : Result := .next (restart 6 s)

/-- `RST 0x38` (R240). -/
def exec_rst_38 (s : State) : Result := .next (restart 7 s)

end Sys2Proof.Machine
end

