-- ==== Sys2Proof/Machine/Loads16.lean ====
section
/-! DEFINITION. 16-bit loads (41_loads16.md). -/

namespace Sys2Proof.Machine

/-- `xx[rp] <- w` (R130). -/
def loadPair (p : Pair) (w : Word) (s : State) : State := s.setPair p w

/-- `MemWrite(addr, 2, xx[SP])` (R131). -/
def storeSP (addr : Word) (s : State) : State := s.write16 addr s.sp

/-- `xx[SP] <- xx[HL]` (R132). -/
def copyHLToSP (s : State) : State := { s with sp := s.hl }

/-- `xx[HL] <- SP + sext_16(e)` with the flags of the low-byte addition (R133). -/
def loadHLSPOffset (e : Byte) (s : State) : State :=
  { s.setHL (s.sp + sext16 e) with flags := spOffsetFlags s.sp e }

/-- `LD BC,d16` (R130). -/
def exec_ld_BC_d16 (w : Word) (s : State) : Result := .next (loadPair .bc w s)

/-- `LD DE,d16` (R130). -/
def exec_ld_DE_d16 (w : Word) (s : State) : Result := .next (loadPair .de w s)

/-- `LD HL,d16` (R130). -/
def exec_ld_HL_d16 (w : Word) (s : State) : Result := .next (loadPair .hl w s)

/-- `LD SP,d16` (R130). -/
def exec_ld_SP_d16 (w : Word) (s : State) : Result := .next (loadPair .sp w s)

/-- `LD (a16),SP` (R131). -/
def exec_ld_atA16_SP (addr : Word) (s : State) : Result := .next (storeSP addr s)

/-- `LD SP,HL` (R132). -/
def exec_ld_SP_HL (s : State) : Result := .next (copyHLToSP s)

/-- `LD HL,SP+e8` (R133). -/
def exec_ld_HL_SPe8 (e : Byte) (s : State) : Result := .next (loadHLSPOffset e s)

end Sys2Proof.Machine
end

