-- ==== Sys2Proof/Machine/Loads8.lean ====
section
/-! DEFINITION. 8-bit loads (40_loads8.md). No instruction here changes a flag. -/

namespace Sys2Proof.Machine

/-- `x[dst] <- x[r]` (R100). -/
def copyReg (dst r : Reg8) (s : State) : State := s.setReg dst (s.reg r)

/-- `x[r] <- v`, the value read before the write (R101, R102, R105, R106, R109, R111, R113). -/
def loadReg (r : Reg8) (v : Byte) (s : State) : State := s.setReg r v

/-- `MemWrite(addr, 1, v)` (R103, R104, R107, R108, R110, R112, R114). -/
def storeByte (addr : Word) (v : Byte) (s : State) : State := s.write addr v

/-- Store A at HL, then increment HL (R115). -/
def storeAIncHL (s : State) : State := (s.write s.hl s.a).setHL (s.hl + 1)

/-- Load A from HL, then increment HL (R116). -/
def loadAIncHL (s : State) : State := (s.setReg .a (s.read s.hl)).setHL (s.hl + 1)

/-- Store A at HL, then decrement HL (R117). -/
def storeADecHL (s : State) : State := (s.write s.hl s.a).setHL (s.hl - 1)

/-- Load A from HL, then decrement HL (R118). -/
def loadADecHL (s : State) : State := (s.setReg .a (s.read s.hl)).setHL (s.hl - 1)

/-- `LD B,B` (R100). -/
def exec_ld_B_B (s : State) : Result := .next (copyReg .b .b s)

/-- `LD B,C` (R100). -/
def exec_ld_B_C (s : State) : Result := .next (copyReg .b .c s)

/-- `LD B,D` (R100). -/
def exec_ld_B_D (s : State) : Result := .next (copyReg .b .d s)

/-- `LD B,E` (R100). -/
def exec_ld_B_E (s : State) : Result := .next (copyReg .b .e s)

/-- `LD B,H` (R100). -/
def exec_ld_B_H (s : State) : Result := .next (copyReg .b .h s)

/-- `LD B,L` (R100). -/
def exec_ld_B_L (s : State) : Result := .next (copyReg .b .l s)

/-- `LD B,A` (R100). -/
def exec_ld_B_A (s : State) : Result := .next (copyReg .b .a s)

/-- `LD C,B` (R100). -/
def exec_ld_C_B (s : State) : Result := .next (copyReg .c .b s)

/-- `LD C,C` (R100). -/
def exec_ld_C_C (s : State) : Result := .next (copyReg .c .c s)

/-- `LD C,D` (R100). -/
def exec_ld_C_D (s : State) : Result := .next (copyReg .c .d s)

/-- `LD C,E` (R100). -/
def exec_ld_C_E (s : State) : Result := .next (copyReg .c .e s)

/-- `LD C,H` (R100). -/
def exec_ld_C_H (s : State) : Result := .next (copyReg .c .h s)

/-- `LD C,L` (R100). -/
def exec_ld_C_L (s : State) : Result := .next (copyReg .c .l s)

/-- `LD C,A` (R100). -/
def exec_ld_C_A (s : State) : Result := .next (copyReg .c .a s)

/-- `LD D,B` (R100). -/
def exec_ld_D_B (s : State) : Result := .next (copyReg .d .b s)

/-- `LD D,C` (R100). -/
def exec_ld_D_C (s : State) : Result := .next (copyReg .d .c s)

/-- `LD D,D` (R100). -/
def exec_ld_D_D (s : State) : Result := .next (copyReg .d .d s)

/-- `LD D,E` (R100). -/
def exec_ld_D_E (s : State) : Result := .next (copyReg .d .e s)

/-- `LD D,H` (R100). -/
def exec_ld_D_H (s : State) : Result := .next (copyReg .d .h s)

/-- `LD D,L` (R100). -/
def exec_ld_D_L (s : State) : Result := .next (copyReg .d .l s)

/-- `LD D,A` (R100). -/
def exec_ld_D_A (s : State) : Result := .next (copyReg .d .a s)

/-- `LD E,B` (R100). -/
def exec_ld_E_B (s : State) : Result := .next (copyReg .e .b s)

/-- `LD E,C` (R100). -/
def exec_ld_E_C (s : State) : Result := .next (copyReg .e .c s)

/-- `LD E,D` (R100). -/
def exec_ld_E_D (s : State) : Result := .next (copyReg .e .d s)

/-- `LD E,E` (R100). -/
def exec_ld_E_E (s : State) : Result := .next (copyReg .e .e s)

/-- `LD E,H` (R100). -/
def exec_ld_E_H (s : State) : Result := .next (copyReg .e .h s)

/-- `LD E,L` (R100). -/
def exec_ld_E_L (s : State) : Result := .next (copyReg .e .l s)

/-- `LD E,A` (R100). -/
def exec_ld_E_A (s : State) : Result := .next (copyReg .e .a s)

/-- `LD H,B` (R100). -/
def exec_ld_H_B (s : State) : Result := .next (copyReg .h .b s)

/-- `LD H,C` (R100). -/
def exec_ld_H_C (s : State) : Result := .next (copyReg .h .c s)

/-- `LD H,D` (R100). -/
def exec_ld_H_D (s : State) : Result := .next (copyReg .h .d s)

/-- `LD H,E` (R100). -/
def exec_ld_H_E (s : State) : Result := .next (copyReg .h .e s)

/-- `LD H,H` (R100). -/
def exec_ld_H_H (s : State) : Result := .next (copyReg .h .h s)

/-- `LD H,L` (R100). -/
def exec_ld_H_L (s : State) : Result := .next (copyReg .h .l s)

/-- `LD H,A` (R100). -/
def exec_ld_H_A (s : State) : Result := .next (copyReg .h .a s)

/-- `LD L,B` (R100). -/
def exec_ld_L_B (s : State) : Result := .next (copyReg .l .b s)

/-- `LD L,C` (R100). -/
def exec_ld_L_C (s : State) : Result := .next (copyReg .l .c s)

/-- `LD L,D` (R100). -/
def exec_ld_L_D (s : State) : Result := .next (copyReg .l .d s)

/-- `LD L,E` (R100). -/
def exec_ld_L_E (s : State) : Result := .next (copyReg .l .e s)

/-- `LD L,H` (R100). -/
def exec_ld_L_H (s : State) : Result := .next (copyReg .l .h s)

/-- `LD L,L` (R100). -/
def exec_ld_L_L (s : State) : Result := .next (copyReg .l .l s)

/-- `LD L,A` (R100). -/
def exec_ld_L_A (s : State) : Result := .next (copyReg .l .a s)

/-- `LD A,B` (R100). -/
def exec_ld_A_B (s : State) : Result := .next (copyReg .a .b s)

/-- `LD A,C` (R100). -/
def exec_ld_A_C (s : State) : Result := .next (copyReg .a .c s)

/-- `LD A,D` (R100). -/
def exec_ld_A_D (s : State) : Result := .next (copyReg .a .d s)

/-- `LD A,E` (R100). -/
def exec_ld_A_E (s : State) : Result := .next (copyReg .a .e s)

/-- `LD A,H` (R100). -/
def exec_ld_A_H (s : State) : Result := .next (copyReg .a .h s)

/-- `LD A,L` (R100). -/
def exec_ld_A_L (s : State) : Result := .next (copyReg .a .l s)

/-- `LD A,A` (R100). -/
def exec_ld_A_A (s : State) : Result := .next (copyReg .a .a s)

/-- `LD B,d8` (R101). -/
def exec_ld_B_d8 (n : Byte) (s : State) : Result := .next (loadReg .b n s)

/-- `LD C,d8` (R101). -/
def exec_ld_C_d8 (n : Byte) (s : State) : Result := .next (loadReg .c n s)

/-- `LD D,d8` (R101). -/
def exec_ld_D_d8 (n : Byte) (s : State) : Result := .next (loadReg .d n s)

/-- `LD E,d8` (R101). -/
def exec_ld_E_d8 (n : Byte) (s : State) : Result := .next (loadReg .e n s)

/-- `LD H,d8` (R101). -/
def exec_ld_H_d8 (n : Byte) (s : State) : Result := .next (loadReg .h n s)

/-- `LD L,d8` (R101). -/
def exec_ld_L_d8 (n : Byte) (s : State) : Result := .next (loadReg .l n s)

/-- `LD A,d8` (R101). -/
def exec_ld_A_d8 (n : Byte) (s : State) : Result := .next (loadReg .a n s)

/-- `LD B,(HL)` (R102). -/
def exec_ld_B_atHL (s : State) : Result := .next (loadReg .b (s.read s.hl) s)

/-- `LD C,(HL)` (R102). -/
def exec_ld_C_atHL (s : State) : Result := .next (loadReg .c (s.read s.hl) s)

/-- `LD D,(HL)` (R102). -/
def exec_ld_D_atHL (s : State) : Result := .next (loadReg .d (s.read s.hl) s)

/-- `LD E,(HL)` (R102). -/
def exec_ld_E_atHL (s : State) : Result := .next (loadReg .e (s.read s.hl) s)

/-- `LD H,(HL)` (R102). -/
def exec_ld_H_atHL (s : State) : Result := .next (loadReg .h (s.read s.hl) s)

/-- `LD L,(HL)` (R102). -/
def exec_ld_L_atHL (s : State) : Result := .next (loadReg .l (s.read s.hl) s)

/-- `LD A,(HL)` (R102). -/
def exec_ld_A_atHL (s : State) : Result := .next (loadReg .a (s.read s.hl) s)

/-- `LD (HL),B` (R103). -/
def exec_ld_atHL_B (s : State) : Result := .next (storeByte s.hl (s.reg .b) s)

/-- `LD (HL),C` (R103). -/
def exec_ld_atHL_C (s : State) : Result := .next (storeByte s.hl (s.reg .c) s)

/-- `LD (HL),D` (R103). -/
def exec_ld_atHL_D (s : State) : Result := .next (storeByte s.hl (s.reg .d) s)

/-- `LD (HL),E` (R103). -/
def exec_ld_atHL_E (s : State) : Result := .next (storeByte s.hl (s.reg .e) s)

/-- `LD (HL),H` (R103). -/
def exec_ld_atHL_H (s : State) : Result := .next (storeByte s.hl (s.reg .h) s)

/-- `LD (HL),L` (R103). -/
def exec_ld_atHL_L (s : State) : Result := .next (storeByte s.hl (s.reg .l) s)

/-- `LD (HL),A` (R103). -/
def exec_ld_atHL_A (s : State) : Result := .next (storeByte s.hl (s.reg .a) s)

/-- `LD (HL),d8` (R104). -/
def exec_ld_atHL_d8 (n : Byte) (s : State) : Result := .next (storeByte s.hl n s)

/-- `LD A,(BC)` (R105). -/
def exec_ld_A_atBC (s : State) : Result := .next (loadReg .a (s.read (s.pair .bc)) s)

/-- `LD A,(DE)` (R106). -/
def exec_ld_A_atDE (s : State) : Result := .next (loadReg .a (s.read (s.pair .de)) s)

/-- `LD (BC),A` (R107). -/
def exec_ld_atBC_A (s : State) : Result := .next (storeByte (s.pair .bc) s.a s)

/-- `LD (DE),A` (R108). -/
def exec_ld_atDE_A (s : State) : Result := .next (storeByte (s.pair .de) s.a s)

/-- `LD A,(a16)` (R109). -/
def exec_ld_A_atA16 (addr : Word) (s : State) : Result := .next (loadReg .a (s.read addr) s)

/-- `LD (a16),A` (R110). -/
def exec_ld_atA16_A (addr : Word) (s : State) : Result := .next (storeByte addr s.a s)

/-- `LDH A,(C)` (R111). -/
def exec_ldh_A_atC (s : State) : Result := .next (loadReg .a (s.read (highAddr s.c)) s)

/-- `LDH (C),A` (R112). -/
def exec_ldh_atC_A (s : State) : Result := .next (storeByte (highAddr s.c) s.a s)

/-- `LDH A,(a8)` (R113). -/
def exec_ldh_A_atA8 (n : Byte) (s : State) : Result := .next (loadReg .a (s.read (highAddr n)) s)

/-- `LDH (a8),A` (R114). -/
def exec_ldh_atA8_A (n : Byte) (s : State) : Result := .next (storeByte (highAddr n) s.a s)

/-- `LD (HL+),A` (R115). -/
def exec_ld_atHLinc_A (s : State) : Result := .next (storeAIncHL s)

/-- `LD A,(HL+)` (R116). -/
def exec_ld_A_atHLinc (s : State) : Result := .next (loadAIncHL s)

/-- `LD (HL-),A` (R117). -/
def exec_ld_atHLdec_A (s : State) : Result := .next (storeADecHL s)

/-- `LD A,(HL-)` (R118). -/
def exec_ld_A_atHLdec (s : State) : Result := .next (loadADecHL s)

end Sys2Proof.Machine
end

