-- ==== Sys2Proof/Machine/RotShift.lean ====
section
/-! DEFINITION. Rotates and shifts (45_rotates_shifts.md). -/

namespace Sys2Proof.Machine

/-- The accumulator rotates (R200 to R203): as the extended form, but Z is always cleared. -/
def rotateA (k : Rot) (s : State) : State :=
  { s with a := (rotate8 k s.a s.flags.c).1, flags := accRotFlags (rotate8 k s.a s.flags.c).2 }

/-- The register forms of the extended table (R204, R206, … R218). -/
def rotateReg (k : Rot) (r : Reg8) (s : State) : State :=
  { s.setReg r (rotate8 k (s.reg r) s.flags.c).1 with
    flags := rotFlags (rotate8 k (s.reg r) s.flags.c).1 (rotate8 k (s.reg r) s.flags.c).2 }

/-- The `(HL)` forms (R205, R207, … R219): the flags reflect the computed result even where the write is dropped. -/
def rotateMem (k : Rot) (s : State) : State :=
  { s.write s.hl (rotate8 k (s.read s.hl) s.flags.c).1 with
    flags := rotFlags (rotate8 k (s.read s.hl) s.flags.c).1 (rotate8 k (s.read s.hl) s.flags.c).2 }

/-- `RLCA` (R200). -/
def exec_rlca (s : State) : Result := .next (rotateA .rlc s)

/-- `RRCA` (R201). -/
def exec_rrca (s : State) : Result := .next (rotateA .rrc s)

/-- `RLA` (R202). -/
def exec_rla (s : State) : Result := .next (rotateA .rl s)

/-- `RRA` (R203). -/
def exec_rra (s : State) : Result := .next (rotateA .rr s)

/-- `RLC B` (R204). -/
def exec_rlc_B (s : State) : Result := .next (rotateReg .rlc .b s)

/-- `RLC C` (R204). -/
def exec_rlc_C (s : State) : Result := .next (rotateReg .rlc .c s)

/-- `RLC D` (R204). -/
def exec_rlc_D (s : State) : Result := .next (rotateReg .rlc .d s)

/-- `RLC E` (R204). -/
def exec_rlc_E (s : State) : Result := .next (rotateReg .rlc .e s)

/-- `RLC H` (R204). -/
def exec_rlc_H (s : State) : Result := .next (rotateReg .rlc .h s)

/-- `RLC L` (R204). -/
def exec_rlc_L (s : State) : Result := .next (rotateReg .rlc .l s)

/-- `RLC A` (R204). -/
def exec_rlc_A (s : State) : Result := .next (rotateReg .rlc .a s)

/-- `RRC B` (R206). -/
def exec_rrc_B (s : State) : Result := .next (rotateReg .rrc .b s)

/-- `RRC C` (R206). -/
def exec_rrc_C (s : State) : Result := .next (rotateReg .rrc .c s)

/-- `RRC D` (R206). -/
def exec_rrc_D (s : State) : Result := .next (rotateReg .rrc .d s)

/-- `RRC E` (R206). -/
def exec_rrc_E (s : State) : Result := .next (rotateReg .rrc .e s)

/-- `RRC H` (R206). -/
def exec_rrc_H (s : State) : Result := .next (rotateReg .rrc .h s)

/-- `RRC L` (R206). -/
def exec_rrc_L (s : State) : Result := .next (rotateReg .rrc .l s)

/-- `RRC A` (R206). -/
def exec_rrc_A (s : State) : Result := .next (rotateReg .rrc .a s)

/-- `RL B` (R208). -/
def exec_rl_B (s : State) : Result := .next (rotateReg .rl .b s)

/-- `RL C` (R208). -/
def exec_rl_C (s : State) : Result := .next (rotateReg .rl .c s)

/-- `RL D` (R208). -/
def exec_rl_D (s : State) : Result := .next (rotateReg .rl .d s)

/-- `RL E` (R208). -/
def exec_rl_E (s : State) : Result := .next (rotateReg .rl .e s)

/-- `RL H` (R208). -/
def exec_rl_H (s : State) : Result := .next (rotateReg .rl .h s)

/-- `RL L` (R208). -/
def exec_rl_L (s : State) : Result := .next (rotateReg .rl .l s)

/-- `RL A` (R208). -/
def exec_rl_A (s : State) : Result := .next (rotateReg .rl .a s)

/-- `RR B` (R210). -/
def exec_rr_B (s : State) : Result := .next (rotateReg .rr .b s)

/-- `RR C` (R210). -/
def exec_rr_C (s : State) : Result := .next (rotateReg .rr .c s)

/-- `RR D` (R210). -/
def exec_rr_D (s : State) : Result := .next (rotateReg .rr .d s)

/-- `RR E` (R210). -/
def exec_rr_E (s : State) : Result := .next (rotateReg .rr .e s)

/-- `RR H` (R210). -/
def exec_rr_H (s : State) : Result := .next (rotateReg .rr .h s)

/-- `RR L` (R210). -/
def exec_rr_L (s : State) : Result := .next (rotateReg .rr .l s)

/-- `RR A` (R210). -/
def exec_rr_A (s : State) : Result := .next (rotateReg .rr .a s)

/-- `SLA B` (R212). -/
def exec_sla_B (s : State) : Result := .next (rotateReg .sla .b s)

/-- `SLA C` (R212). -/
def exec_sla_C (s : State) : Result := .next (rotateReg .sla .c s)

/-- `SLA D` (R212). -/
def exec_sla_D (s : State) : Result := .next (rotateReg .sla .d s)

/-- `SLA E` (R212). -/
def exec_sla_E (s : State) : Result := .next (rotateReg .sla .e s)

/-- `SLA H` (R212). -/
def exec_sla_H (s : State) : Result := .next (rotateReg .sla .h s)

/-- `SLA L` (R212). -/
def exec_sla_L (s : State) : Result := .next (rotateReg .sla .l s)

/-- `SLA A` (R212). -/
def exec_sla_A (s : State) : Result := .next (rotateReg .sla .a s)

/-- `SRA B` (R214). -/
def exec_sra_B (s : State) : Result := .next (rotateReg .sra .b s)

/-- `SRA C` (R214). -/
def exec_sra_C (s : State) : Result := .next (rotateReg .sra .c s)

/-- `SRA D` (R214). -/
def exec_sra_D (s : State) : Result := .next (rotateReg .sra .d s)

/-- `SRA E` (R214). -/
def exec_sra_E (s : State) : Result := .next (rotateReg .sra .e s)

/-- `SRA H` (R214). -/
def exec_sra_H (s : State) : Result := .next (rotateReg .sra .h s)

/-- `SRA L` (R214). -/
def exec_sra_L (s : State) : Result := .next (rotateReg .sra .l s)

/-- `SRA A` (R214). -/
def exec_sra_A (s : State) : Result := .next (rotateReg .sra .a s)

/-- `SWAP B` (R216). -/
def exec_swap_B (s : State) : Result := .next (rotateReg .swap .b s)

/-- `SWAP C` (R216). -/
def exec_swap_C (s : State) : Result := .next (rotateReg .swap .c s)

/-- `SWAP D` (R216). -/
def exec_swap_D (s : State) : Result := .next (rotateReg .swap .d s)

/-- `SWAP E` (R216). -/
def exec_swap_E (s : State) : Result := .next (rotateReg .swap .e s)

/-- `SWAP H` (R216). -/
def exec_swap_H (s : State) : Result := .next (rotateReg .swap .h s)

/-- `SWAP L` (R216). -/
def exec_swap_L (s : State) : Result := .next (rotateReg .swap .l s)

/-- `SWAP A` (R216). -/
def exec_swap_A (s : State) : Result := .next (rotateReg .swap .a s)

/-- `SRL B` (R218). -/
def exec_srl_B (s : State) : Result := .next (rotateReg .srl .b s)

/-- `SRL C` (R218). -/
def exec_srl_C (s : State) : Result := .next (rotateReg .srl .c s)

/-- `SRL D` (R218). -/
def exec_srl_D (s : State) : Result := .next (rotateReg .srl .d s)

/-- `SRL E` (R218). -/
def exec_srl_E (s : State) : Result := .next (rotateReg .srl .e s)

/-- `SRL H` (R218). -/
def exec_srl_H (s : State) : Result := .next (rotateReg .srl .h s)

/-- `SRL L` (R218). -/
def exec_srl_L (s : State) : Result := .next (rotateReg .srl .l s)

/-- `SRL A` (R218). -/
def exec_srl_A (s : State) : Result := .next (rotateReg .srl .a s)

/-- `RLC (HL)` (R205). -/
def exec_rlc_atHL (s : State) : Result := .next (rotateMem .rlc s)

/-- `RRC (HL)` (R207). -/
def exec_rrc_atHL (s : State) : Result := .next (rotateMem .rrc s)

/-- `RL (HL)` (R209). -/
def exec_rl_atHL (s : State) : Result := .next (rotateMem .rl s)

/-- `RR (HL)` (R211). -/
def exec_rr_atHL (s : State) : Result := .next (rotateMem .rr s)

/-- `SLA (HL)` (R213). -/
def exec_sla_atHL (s : State) : Result := .next (rotateMem .sla s)

/-- `SRA (HL)` (R215). -/
def exec_sra_atHL (s : State) : Result := .next (rotateMem .sra s)

/-- `SWAP (HL)` (R217). -/
def exec_swap_atHL (s : State) : Result := .next (rotateMem .swap s)

/-- `SRL (HL)` (R219). -/
def exec_srl_atHL (s : State) : Result := .next (rotateMem .srl s)

end Sys2Proof.Machine
end

