-- ==== Sys2Proof/Machine/Prefix.lean ====
section
/-! DEFINITION. The prefix 0xCB (R265) as an opcode of its own: fetch `cb`, then run the extended instruction it selects. The tables
`run_…` reach each extended instruction's own meaning. -/

namespace Sys2Proof.Machine

/-- The meanings of the family `rotReg`, by field value. -/
def run_rotReg (s : State) : Rot → Reg8 → Result
  | .rlc, .b => exec_rlc_B s
  | .rlc, .c => exec_rlc_C s
  | .rlc, .d => exec_rlc_D s
  | .rlc, .e => exec_rlc_E s
  | .rlc, .h => exec_rlc_H s
  | .rlc, .l => exec_rlc_L s
  | .rlc, .a => exec_rlc_A s
  | .rrc, .b => exec_rrc_B s
  | .rrc, .c => exec_rrc_C s
  | .rrc, .d => exec_rrc_D s
  | .rrc, .e => exec_rrc_E s
  | .rrc, .h => exec_rrc_H s
  | .rrc, .l => exec_rrc_L s
  | .rrc, .a => exec_rrc_A s
  | .rl, .b => exec_rl_B s
  | .rl, .c => exec_rl_C s
  | .rl, .d => exec_rl_D s
  | .rl, .e => exec_rl_E s
  | .rl, .h => exec_rl_H s
  | .rl, .l => exec_rl_L s
  | .rl, .a => exec_rl_A s
  | .rr, .b => exec_rr_B s
  | .rr, .c => exec_rr_C s
  | .rr, .d => exec_rr_D s
  | .rr, .e => exec_rr_E s
  | .rr, .h => exec_rr_H s
  | .rr, .l => exec_rr_L s
  | .rr, .a => exec_rr_A s
  | .sla, .b => exec_sla_B s
  | .sla, .c => exec_sla_C s
  | .sla, .d => exec_sla_D s
  | .sla, .e => exec_sla_E s
  | .sla, .h => exec_sla_H s
  | .sla, .l => exec_sla_L s
  | .sla, .a => exec_sla_A s
  | .sra, .b => exec_sra_B s
  | .sra, .c => exec_sra_C s
  | .sra, .d => exec_sra_D s
  | .sra, .e => exec_sra_E s
  | .sra, .h => exec_sra_H s
  | .sra, .l => exec_sra_L s
  | .sra, .a => exec_sra_A s
  | .swap, .b => exec_swap_B s
  | .swap, .c => exec_swap_C s
  | .swap, .d => exec_swap_D s
  | .swap, .e => exec_swap_E s
  | .swap, .h => exec_swap_H s
  | .swap, .l => exec_swap_L s
  | .swap, .a => exec_swap_A s
  | .srl, .b => exec_srl_B s
  | .srl, .c => exec_srl_C s
  | .srl, .d => exec_srl_D s
  | .srl, .e => exec_srl_E s
  | .srl, .h => exec_srl_H s
  | .srl, .l => exec_srl_L s
  | .srl, .a => exec_srl_A s

/-- The meanings of the family `rotHL`, by field value. -/
def run_rotHL (s : State) : Rot → Result
  | .rlc => exec_rlc_atHL s
  | .rrc => exec_rrc_atHL s
  | .rl => exec_rl_atHL s
  | .rr => exec_rr_atHL s
  | .sla => exec_sla_atHL s
  | .sra => exec_sra_atHL s
  | .swap => exec_swap_atHL s
  | .srl => exec_srl_atHL s

/-- The meanings of the family `bitReg`, by field value. -/
def run_bitReg (s : State) : Index8 → Reg8 → Result
  | 0, .b => exec_bit_0_B s
  | 0, .c => exec_bit_0_C s
  | 0, .d => exec_bit_0_D s
  | 0, .e => exec_bit_0_E s
  | 0, .h => exec_bit_0_H s
  | 0, .l => exec_bit_0_L s
  | 0, .a => exec_bit_0_A s
  | 1, .b => exec_bit_1_B s
  | 1, .c => exec_bit_1_C s
  | 1, .d => exec_bit_1_D s
  | 1, .e => exec_bit_1_E s
  | 1, .h => exec_bit_1_H s
  | 1, .l => exec_bit_1_L s
  | 1, .a => exec_bit_1_A s
  | 2, .b => exec_bit_2_B s
  | 2, .c => exec_bit_2_C s
  | 2, .d => exec_bit_2_D s
  | 2, .e => exec_bit_2_E s
  | 2, .h => exec_bit_2_H s
  | 2, .l => exec_bit_2_L s
  | 2, .a => exec_bit_2_A s
  | 3, .b => exec_bit_3_B s
  | 3, .c => exec_bit_3_C s
  | 3, .d => exec_bit_3_D s
  | 3, .e => exec_bit_3_E s
  | 3, .h => exec_bit_3_H s
  | 3, .l => exec_bit_3_L s
  | 3, .a => exec_bit_3_A s
  | 4, .b => exec_bit_4_B s
  | 4, .c => exec_bit_4_C s
  | 4, .d => exec_bit_4_D s
  | 4, .e => exec_bit_4_E s
  | 4, .h => exec_bit_4_H s
  | 4, .l => exec_bit_4_L s
  | 4, .a => exec_bit_4_A s
  | 5, .b => exec_bit_5_B s
  | 5, .c => exec_bit_5_C s
  | 5, .d => exec_bit_5_D s
  | 5, .e => exec_bit_5_E s
  | 5, .h => exec_bit_5_H s
  | 5, .l => exec_bit_5_L s
  | 5, .a => exec_bit_5_A s
  | 6, .b => exec_bit_6_B s
  | 6, .c => exec_bit_6_C s
  | 6, .d => exec_bit_6_D s
  | 6, .e => exec_bit_6_E s
  | 6, .h => exec_bit_6_H s
  | 6, .l => exec_bit_6_L s
  | 6, .a => exec_bit_6_A s
  | 7, .b => exec_bit_7_B s
  | 7, .c => exec_bit_7_C s
  | 7, .d => exec_bit_7_D s
  | 7, .e => exec_bit_7_E s
  | 7, .h => exec_bit_7_H s
  | 7, .l => exec_bit_7_L s
  | 7, .a => exec_bit_7_A s

/-- The meanings of the family `bitHL`, by field value. -/
def run_bitHL (s : State) : Index8 → Result
  | 0 => exec_bit_0_atHL s
  | 1 => exec_bit_1_atHL s
  | 2 => exec_bit_2_atHL s
  | 3 => exec_bit_3_atHL s
  | 4 => exec_bit_4_atHL s
  | 5 => exec_bit_5_atHL s
  | 6 => exec_bit_6_atHL s
  | 7 => exec_bit_7_atHL s

/-- The meanings of the family `resReg`, by field value. -/
def run_resReg (s : State) : Index8 → Reg8 → Result
  | 0, .b => exec_res_0_B s
  | 0, .c => exec_res_0_C s
  | 0, .d => exec_res_0_D s
  | 0, .e => exec_res_0_E s
  | 0, .h => exec_res_0_H s
  | 0, .l => exec_res_0_L s
  | 0, .a => exec_res_0_A s
  | 1, .b => exec_res_1_B s
  | 1, .c => exec_res_1_C s
  | 1, .d => exec_res_1_D s
  | 1, .e => exec_res_1_E s
  | 1, .h => exec_res_1_H s
  | 1, .l => exec_res_1_L s
  | 1, .a => exec_res_1_A s
  | 2, .b => exec_res_2_B s
  | 2, .c => exec_res_2_C s
  | 2, .d => exec_res_2_D s
  | 2, .e => exec_res_2_E s
  | 2, .h => exec_res_2_H s
  | 2, .l => exec_res_2_L s
  | 2, .a => exec_res_2_A s
  | 3, .b => exec_res_3_B s
  | 3, .c => exec_res_3_C s
  | 3, .d => exec_res_3_D s
  | 3, .e => exec_res_3_E s
  | 3, .h => exec_res_3_H s
  | 3, .l => exec_res_3_L s
  | 3, .a => exec_res_3_A s
  | 4, .b => exec_res_4_B s
  | 4, .c => exec_res_4_C s
  | 4, .d => exec_res_4_D s
  | 4, .e => exec_res_4_E s
  | 4, .h => exec_res_4_H s
  | 4, .l => exec_res_4_L s
  | 4, .a => exec_res_4_A s
  | 5, .b => exec_res_5_B s
  | 5, .c => exec_res_5_C s
  | 5, .d => exec_res_5_D s
  | 5, .e => exec_res_5_E s
  | 5, .h => exec_res_5_H s
  | 5, .l => exec_res_5_L s
  | 5, .a => exec_res_5_A s
  | 6, .b => exec_res_6_B s
  | 6, .c => exec_res_6_C s
  | 6, .d => exec_res_6_D s
  | 6, .e => exec_res_6_E s
  | 6, .h => exec_res_6_H s
  | 6, .l => exec_res_6_L s
  | 6, .a => exec_res_6_A s
  | 7, .b => exec_res_7_B s
  | 7, .c => exec_res_7_C s
  | 7, .d => exec_res_7_D s
  | 7, .e => exec_res_7_E s
  | 7, .h => exec_res_7_H s
  | 7, .l => exec_res_7_L s
  | 7, .a => exec_res_7_A s

/-- The meanings of the family `resHL`, by field value. -/
def run_resHL (s : State) : Index8 → Result
  | 0 => exec_res_0_atHL s
  | 1 => exec_res_1_atHL s
  | 2 => exec_res_2_atHL s
  | 3 => exec_res_3_atHL s
  | 4 => exec_res_4_atHL s
  | 5 => exec_res_5_atHL s
  | 6 => exec_res_6_atHL s
  | 7 => exec_res_7_atHL s

/-- The meanings of the family `setReg`, by field value. -/
def run_setReg (s : State) : Index8 → Reg8 → Result
  | 0, .b => exec_set_0_B s
  | 0, .c => exec_set_0_C s
  | 0, .d => exec_set_0_D s
  | 0, .e => exec_set_0_E s
  | 0, .h => exec_set_0_H s
  | 0, .l => exec_set_0_L s
  | 0, .a => exec_set_0_A s
  | 1, .b => exec_set_1_B s
  | 1, .c => exec_set_1_C s
  | 1, .d => exec_set_1_D s
  | 1, .e => exec_set_1_E s
  | 1, .h => exec_set_1_H s
  | 1, .l => exec_set_1_L s
  | 1, .a => exec_set_1_A s
  | 2, .b => exec_set_2_B s
  | 2, .c => exec_set_2_C s
  | 2, .d => exec_set_2_D s
  | 2, .e => exec_set_2_E s
  | 2, .h => exec_set_2_H s
  | 2, .l => exec_set_2_L s
  | 2, .a => exec_set_2_A s
  | 3, .b => exec_set_3_B s
  | 3, .c => exec_set_3_C s
  | 3, .d => exec_set_3_D s
  | 3, .e => exec_set_3_E s
  | 3, .h => exec_set_3_H s
  | 3, .l => exec_set_3_L s
  | 3, .a => exec_set_3_A s
  | 4, .b => exec_set_4_B s
  | 4, .c => exec_set_4_C s
  | 4, .d => exec_set_4_D s
  | 4, .e => exec_set_4_E s
  | 4, .h => exec_set_4_H s
  | 4, .l => exec_set_4_L s
  | 4, .a => exec_set_4_A s
  | 5, .b => exec_set_5_B s
  | 5, .c => exec_set_5_C s
  | 5, .d => exec_set_5_D s
  | 5, .e => exec_set_5_E s
  | 5, .h => exec_set_5_H s
  | 5, .l => exec_set_5_L s
  | 5, .a => exec_set_5_A s
  | 6, .b => exec_set_6_B s
  | 6, .c => exec_set_6_C s
  | 6, .d => exec_set_6_D s
  | 6, .e => exec_set_6_E s
  | 6, .h => exec_set_6_H s
  | 6, .l => exec_set_6_L s
  | 6, .a => exec_set_6_A s
  | 7, .b => exec_set_7_B s
  | 7, .c => exec_set_7_C s
  | 7, .d => exec_set_7_D s
  | 7, .e => exec_set_7_E s
  | 7, .h => exec_set_7_H s
  | 7, .l => exec_set_7_L s
  | 7, .a => exec_set_7_A s

/-- The meanings of the family `setHL`, by field value. -/
def run_setHL (s : State) : Index8 → Result
  | 0 => exec_set_0_atHL s
  | 1 => exec_set_1_atHL s
  | 2 => exec_set_2_atHL s
  | 3 => exec_set_3_atHL s
  | 4 => exec_set_4_atHL s
  | 5 => exec_set_5_atHL s
  | 6 => exec_set_6_atHL s
  | 7 => exec_set_7_atHL s

/-- Run the extended-table instruction (R265). -/
def runExtended (x : ExtForm) (s : State) : Result :=
  match x with
  | .rotReg k r => run_rotReg s k r
  | .rotHL k => run_rotHL s k
  | .bitReg i r => run_bitReg s i r
  | .bitHL i => run_bitHL s i
  | .resReg i r => run_resReg s i r
  | .resHL i => run_resHL s i
  | .setReg i r => run_setReg s i r
  | .setHL i => run_setHL s i

/-- `PREFIX CB` (R265): `cb <- fetch()`, then the extended-table instruction selected by `cb`. -/
def exec_prefix_CB (s : State) : Result := runExtended (decodeExt (fetch s).1) (fetch s).2

end Sys2Proof.Machine
end

