-- ==== Sys2Proof/Machine/Stack.lean ====
section
/-! DEFINITION. PUSH and POP (47_stack.md). -/

namespace Sys2Proof.Machine

/-- `PUSH rp2` (R254). -/
def pushPair (p : StackPair) (s : State) : State := push16 (s.stackPair p) s

/-- `POP rp2` (R256, R257); POP AF loads the four flags through F. -/
def popPair (p : StackPair) (s : State) : State := (pop16 s).2.setStackPair p (pop16 s).1

/-- `PUSH BC` (R254). -/
def exec_push_BC (s : State) : Result := .next (pushPair .bc s)

/-- `PUSH DE` (R254). -/
def exec_push_DE (s : State) : Result := .next (pushPair .de s)

/-- `PUSH HL` (R254). -/
def exec_push_HL (s : State) : Result := .next (pushPair .hl s)

/-- `PUSH AF` (R254). -/
def exec_push_AF (s : State) : Result := .next (pushPair .af s)

/-- `POP BC` (R256). -/
def exec_pop_BC (s : State) : Result := .next (popPair .bc s)

/-- `POP DE` (R256). -/
def exec_pop_DE (s : State) : Result := .next (popPair .de s)

/-- `POP HL` (R256). -/
def exec_pop_HL (s : State) : Result := .next (popPair .hl s)

/-- `POP AF` (R257). -/
def exec_pop_AF (s : State) : Result := .next (popPair .af s)

end Sys2Proof.Machine
end

