-- ==== Sys2Proof/Machine/System.lean ====
section
/-! DEFINITION. System instructions and the illegal code points (48_system.md). -/

namespace Sys2Proof.Machine

/-- NOP (R260). -/
def noOperation (s : State) : State := s

/-- HALT (R261). -/
def enterHalt (s : State) : State := { s with mode := .halted }

/-- STOP (R262); its operand byte is fetched and ignored (R87). -/
def enterStop (_ignored : Byte) (s : State) : State := { s with mode := .stopped }

/-- EI (R263): IME itself is set by `step` at the end of the next instruction (R303). -/
def armInterrupts (s : State) : State := { s with eiPending := true }

/-- DI (R264). -/
def disableInterrupts (s : State) : State := { s with ime := false, eiPending := false }

/-- `NOP` (R260). -/
def exec_nop (s : State) : Result := .next (noOperation s)

/-- `HALT` (R261). -/
def exec_halt (s : State) : Result := .next (enterHalt s)

/-- `STOP` (R262). -/
def exec_stop (n : Byte) (s : State) : Result := .next (enterStop n s)

/-- `EI` (R263). -/
def exec_ei (s : State) : Result := .next (armInterrupts s)

/-- `DI` (R264). -/
def exec_di (s : State) : Result := .next (disableInterrupts s)

/-- `ILLEGAL D3` (R266). -/
def exec_illegal_D3 (s : State) : Result := .next (raiseIllegalOpcode .d3 s)

/-- `ILLEGAL DB` (R266). -/
def exec_illegal_DB (s : State) : Result := .next (raiseIllegalOpcode .db s)

/-- `ILLEGAL DD` (R266). -/
def exec_illegal_DD (s : State) : Result := .next (raiseIllegalOpcode .dd s)

/-- `ILLEGAL E3` (R266). -/
def exec_illegal_E3 (s : State) : Result := .next (raiseIllegalOpcode .e3 s)

/-- `ILLEGAL E4` (R266). -/
def exec_illegal_E4 (s : State) : Result := .next (raiseIllegalOpcode .e4 s)

/-- `ILLEGAL EB` (R266). -/
def exec_illegal_EB (s : State) : Result := .next (raiseIllegalOpcode .eb s)

/-- `ILLEGAL EC` (R266). -/
def exec_illegal_EC (s : State) : Result := .next (raiseIllegalOpcode .ec s)

/-- `ILLEGAL ED` (R266). -/
def exec_illegal_ED (s : State) : Result := .next (raiseIllegalOpcode .ed s)

/-- `ILLEGAL F4` (R266). -/
def exec_illegal_F4 (s : State) : Result := .next (raiseIllegalOpcode .f4 s)

/-- `ILLEGAL FC` (R266). -/
def exec_illegal_FC (s : State) : Result := .next (raiseIllegalOpcode .fc s)

/-- `ILLEGAL FD` (R266). -/
def exec_illegal_FD (s : State) : Result := .next (raiseIllegalOpcode .fd s)

end Sys2Proof.Machine
end

