-- ==== Sys2Proof/Machine/Fetch.lean ====
section
/-! DEFINITION. The fetch of a whole instruction, and how an instruction's bytes are put where `step` fetches them. -/

namespace Sys2Proof.Machine

/-- R72 (a): with the opcode byte fetched already, fetch the bytes the instruction still needs (`cb` after the prefix, R265; else
0 to 2 operand bytes, low byte first, R76). -/
def fetchRest (op : Byte) (s : State) : Instr × State :=
  if op = Config.prefixByte then ((decodeExt (fetch s).1).toInstr, (fetch s).2)
  else
    match operandBytes op with
    | 0 => ((decodeBase op 0 0).toInstr, s)
    | 1 => ((decodeBase op (fetch s).1 0).toInstr, (fetch s).2)
    | _ => ((decodeBase op (fetch s).1 (fetch (fetch s).2).1).toInstr, (fetch (fetch s).2).2)

/-- The `n` bytes at `addr` and the addresses after it, modulo 65536, as the Bus reads them. -/
def bytesAt (s : State) : Word → Nat → List Byte
  | _, 0 => []
  | addr, n + 1 => s.read addr :: bytesAt s (addr + 1) n

/-- The Bus with `v` readable at `addr`: stored into the region that answers there, which is made readable; where none answers, in a
new one-byte region registered last (R42). -/
def placeByte (bus : List Region) (addr : Word) (v : Byte) : List Region :=
  match Bus.resolve bus addr with
  | none => bus ++ [Region.store ⟨addr, addr, [], Config.regionDefaultPerm, Config.regionDefaultPerm⟩ addr v]
  | some i => bus.modify i (fun r => { r.store addr v with readable := true })

/-- The Bus with a run of bytes readable from `addr` on. -/
def placeBytes (bus : List Region) (addr : Word) : List Byte → List Region
  | [] => bus
  | v :: vs => placeBytes (placeByte bus addr v) (addr + 1) vs

/-- The bytes of a table row with zero operand bytes after them, up to the longest instruction (R70: three bytes). -/
def instructionBytes (nbits w : Nat) : List Byte := (tableBytes nbits w ++ [0, 0, 0]).take 3

end Sys2Proof.Machine
end

