-- ==== Sys2Proof/Machine/Execute.lean ====
section
/-! DEFINITION. `execute(op)` (R72, R304) and the EI bookkeeping of `step()` (R303). -/

namespace Sys2Proof.Machine

/-- `execute(op)`: fetch the bytes the instruction still needs, then do what it does (R72). As a host port (R304) it acts as if `op`
had just been fetched, whatever the mode, and keeps no EI bookkeeping. -/
def execute (op : Byte) (s : State) : Result := exec (fetchRest op s).1 (fetchRest op s).2

/-- The delayed effect of an EI executed by the previous step (R303): `pending` is `ei_pending` as the step found it, and DI
cancels it (R264). -/
def delayedEnable (pending : Bool) (op : Byte) (s : State) : State :=
  if pending && decide (op ≠ Config.diOpcode) then { s with ime := true } else s

/-- A result's next state, changed by `g`. -/
def mapNext (g : State → State) : Result → Result
  | .next s => .next (g s)
  | .fault r => .fault r
  | .refused r => .refused r

/-- The running case of `step()` (R303): sample and clear `ei_pending`, fetch the opcode, execute it, then the delayed enable. -/
def runOne (s : State) : Result :=
  mapNext (delayedEnable s.eiPending (fetch { s with eiPending := false }).1)
    (execute (fetch { s with eiPending := false }).1 (fetch { s with eiPending := false }).2)

/-- `step()` (R303): in Locked, Halted and Stopped nothing changes. -/
def stepOnce (s : State) : Result :=
  match s.mode with
  | .running => runOne s
  | .halted => .next s
  | .stopped => .next s
  | .locked => .next s

end Sys2Proof.Machine
end

