-- ==== Sys2Proof/Machine/Step.lean ====
section
/-! DEFINITION. The step of the machine, and how an instruction is placed where it fetches. -/

namespace Sys2Proof.Machine

/-- `step()` (R303): one instruction, or nothing when the Engine is not running. -/
def step (s : State) : Result := stepOnce s

/-- The state with a table row's instruction at PC, and running, so that the next step fetches it. -/
def State.withFetchWord (s : State) (nbits w : Nat) : State :=
  { s with mode := .running, bus := placeBytes s.bus s.pc (instructionBytes nbits w) }

end Sys2Proof.Machine
end

