-- ==== Sys2Proof/Machine/HostPorts.lean ====
section
/-! DEFINITION. The operations the host may call between two steps (R305): the region list and the Bus (20_memory.md), the register
ports (R23, R24), the Engine's primitives, `reset`, `interrupt(v)` and `wake` (60_exceptions.md). None is reachable from an
instruction. -/

namespace Sys2Proof.Machine

/-- The items `get_register` and `set_register` name (R23). -/
inductive ByteItem where
  | reg (r : Reg8)
  | f
  | sp
  | pc
deriving DecidableEq, Repr

/-- The items `get_register16` and `set_register16` name (R24). -/
inductive WordItem where
  | af | bc | de | hl | sp | pc
deriving DecidableEq, Repr

/-- `get_register(id)` (R23): SP and PC give their low byte. -/
def getRegister (s : State) : ByteItem → Byte
  | .reg r => s.reg r
  | .f => s.f
  | .sp => loByte s.sp
  | .pc => loByte s.pc

/-- `set_register(id, v)` (R23): SP and PC keep bits 15:8. -/
def setRegister (id : ByteItem) (v : Byte) (s : State) : State :=
  match id with
  | .reg r => s.setReg r v
  | .f => s.setF v
  | .sp => { s with sp := wordOf (hiByte s.sp) v }
  | .pc => { s with pc := wordOf (hiByte s.pc) v }

/-- `get_register16(id)` (R24). -/
def getRegister16 (s : State) : WordItem → Word
  | .af => s.stackPair .af
  | .bc => s.pair .bc
  | .de => s.pair .de
  | .hl => s.pair .hl
  | .sp => s.sp
  | .pc => s.pc

/-- `set_register16(id, w)` (R24, 92_eei_decisions.md D14). -/
def setRegister16 (id : WordItem) (w : Word) (s : State) : State :=
  match id with
  | .af => s.setStackPair .af w
  | .bc => s.setPair .bc w
  | .de => s.setPair .de w
  | .hl => s.setPair .hl w
  | .sp => { s with sp := w }
  | .pc => { s with pc := w }

/-- `get_ime()` (R27). -/
def getIme (s : State) : Bool := s.ime

/-- `add_region(start, end, storage)` (R42): appended, both permissions true. Inadmissible arguments (R40, U4 of
93_implementation_defined.md) are outside the spec: no move. -/
def addRegion (first last : Word) (block : List Byte) (s : State) : Option State :=
  if first.toNat ≤ last.toNat ∧ block.length = last.toNat - first.toNat + 1 then
    some { s with bus := s.bus ++
      [⟨first, last, Memory.ofBytes block, Config.regionDefaultPerm, Config.regionDefaultPerm⟩] }
  else none

/-- `set_readable(i, bit)` (R43): an index that names no region changes nothing (U12). -/
def setReadable (i : Nat) (bit : Bool) (s : State) : State :=
  { s with bus := s.bus.modify i (fun r => { r with readable := bit }) }

/-- `set_writable(i, bit)` (R43). -/
def setWritable (i : Nat) (bit : Bool) (s : State) : State :=
  { s with bus := s.bus.modify i (fun r => { r with writable := bit }) }

/-- `reset()` (R300): the Engine as after construction, in every mode; the Bus is not touched. -/
def resetEngine (s : State) : State := { State.reset with bus := s.bus }

/-- `interrupt(v)` (R286): no move unless mode is Running or Halted and IME is 1 (U11). -/
def interrupt (v : Word) (s : State) : Option State :=
  if (s.mode = .running ∨ s.mode = .halted) ∧ s.ime = true then some (enterInterrupt v s) else none

/-- `wake()` (R287): no move unless mode is Halted or Stopped (U11). -/
def wake (s : State) : Option State :=
  if s.mode = .halted ∨ s.mode = .stopped then some { s with mode := .running } else none

/-- The host's moves: every operation of R305 that can change the state. The others (`get_register`, `get_register16`,
`get_ime`, Bus `read` and `read16`) only return a value. -/
inductive HostMove where
  | addRegion (first last : Word) (block : List Byte)
  | setReadable (i : Nat) (bit : Bool)
  | setWritable (i : Nat) (bit : Bool)
  | write (addr : Word) (v : Byte)
  | write16 (addr w : Word)
  | setRegister (id : ByteItem) (v : Byte)
  | setRegister16 (id : WordItem) (w : Word)
  | fetch
  | push (v : Byte)
  | pop
  | execute (op : Byte)
  | reset
  | interrupt (v : Word)
  | wake
deriving DecidableEq, Repr

/-- The next state of a result, where there is one. -/
def nextState? : Result → Option State
  | .next s => some s
  | .fault _ => none
  | .refused _ => none

/-- The state after a host move between two steps (R305); `none` where the move is not enabled. -/
def hostMove : HostMove → State → Option State
  | .addRegion first last block, s => addRegion first last block s
  | .setReadable i bit, s => some (setReadable i bit s)
  | .setWritable i bit, s => some (setWritable i bit s)
  | .write addr v, s => some (s.write addr v)
  | .write16 addr w, s => some (s.write16 addr w)
  | .setRegister id v, s => some (setRegister id v s)
  | .setRegister16 id w, s => some (setRegister16 id w s)
  | .fetch, s => some (Machine.fetch s).2
  | .push v, s => some (Machine.push v s)
  | .pop, s => some (Machine.pop s).2
  | .execute op, s => nextState? (Machine.execute op s)
  | .reset, s => some (resetEngine s)
  | .interrupt v, s => Machine.interrupt v s
  | .wake, s => Machine.wake s

end Sys2Proof.Machine
end

