-- ==== Sys2Proof/Machine/Timing.lean ====
section
/-! DEFINITION. The cost that `execute()` and `step()` report (R310, R311), in T-cycles. It is an output: no state holds it and no
meaning reads it. -/

namespace Sys2Proof.Machine

/-- The cost of a conditional transfer: `taken` when the condition holds. -/
def condCycles (cc : Cond) (f : Flags) (taken notTaken : Nat) : Nat := if condHolds cc f then taken else notTaken

/-- R311, the rows of the extended table; the fetch of the prefix is counted in. -/
def extCycles : ExtForm → Nat
  | .rotReg .. | .bitReg .. | .resReg .. | .setReg .. => 8
  | .bitHL .. => 12
  | .rotHL .. | .resHL .. | .setHL .. => 16

/-- R311. The state is the one the instruction's fetch left; only the flags that a condition reads, and for the prefix the byte
`cb` at PC, matter. -/
def formCycles (s : State) : Form → Nat
  | .nop | .halt | .stop .. | .di | .ei | .ldRegReg .. | .aluReg .. | .incReg .. | .decReg .. | .rlca | .rrca
  | .rla | .rra | .daa | .cpl | .scf | .ccf | .jpHL | .illegal .. => 4
  | .ldRegImm .. | .ldRegHL .. | .ldHLReg .. | .ldABC | .ldADE | .ldBCA | .ldDEA | .ldHLIncA | .ldHLDecA
  | .ldAHLInc | .ldAHLDec | .ldhAC | .ldhCA | .aluHL .. | .aluImm .. | .addHLPair .. | .incPair .. | .decPair ..
  | .ldSPHL => 8
  | .ldPairImm .. | .ldHLImm .. | .incHL | .decHL | .ldhAImm .. | .ldhImmA .. | .ldHLSPOff .. | .pop .. | .jr .. => 12
  | .ldAAbs .. | .ldAbsA .. | .addSPOff .. | .push .. | .jp .. | .ret | .reti | .rst .. => 16
  | .ldAbsSP .. => 20
  | .call .. => 24
  | .jrCond cc _ => condCycles cc s.flags 12 8
  | .jpCond cc _ => condCycles cc s.flags 16 12
  | .callCond cc _ => condCycles cc s.flags 24 12
  | .retCond cc => condCycles cc s.flags 20 8
  | .prefixCB => extCycles (decodeExt (fetch s).1)
  | .ext x => extCycles x

/-- The cost `execute()` reports for an instruction, on the state its fetch left. -/
def cycles (i : Instr) (s : State) : Nat := formCycles s i.form

/-- The cost the port `execute(op)` reports (R304, R310): that of the instruction whose opcode is `op` and whose other bytes stand
at PC. -/
def executeCycles (op : Byte) (s : State) : Nat := cycles (fetchRest op s).1 (fetchRest op s).2

/-- The cost `step()` returns (R303): 4 when the Engine is not running. -/
def stepCycles (s : State) : Nat :=
  match s.mode with
  | .running => executeCycles (fetch s).1 (fetch s).2
  | .halted | .stopped | .locked => Config.idleCycles

end Sys2Proof.Machine
end

