-- ==== Sys2Proof/Safety.lean ====
section
/-! DEFINITION. The terms claims use: a safe state, the invariant of the storage, the end of a run, and for each family of
instructions what it may write: the flags column of opcode_table.json, the destination registers, the addresses stored to. -/

namespace Sys2Proof.Machine

/-- Locked is the fault state of the CORE (R280): never a final state, left only by `reset()`. A run is safe while it has not reached
it. -/
def State.safe (s : State) : Bool := decide (s.mode ≠ .locked)

/-- The invariant: every region is admissible and its storage canonical (R40). -/
def State.wf (s : State) : Bool := Bus.wf s.bus

/-- The end-of-run convention of R306, in every mode but Locked, which is a fault: PC at a `JR -2` or at a `JP` to itself, or Halted
with IME clear. -/
def endOfRun (s : State) : Bool :=
  decide (s.mode ≠ .locked) &&
    (decide (bytesAt s s.pc 2 = [0x18, 0xFE]) || decide (bytesAt s s.pc 3 = [0xC3, loByte s.pc, hiByte s.pc]) ||
      (decide (s.mode = .halted) && !s.ime))

/-- `fetch()` called `n` times: the bytes in order, and the state left (R20). -/
def fetchMany : Nat → State → List Byte × State
  | 0, s => ([], s)
  | n + 1, s => ((fetch s).1 :: (fetchMany n (fetch s).2).1, (fetchMany n (fetch s).2).2)

/-- What a program can see of a state: the bytes of unreadable regions blanked (R44: they read as zero). -/
def State.observable (s : State) : State :=
  { s with bus := s.bus.map (fun r => if r.readable then r else { r with storage := [] }) }

/-- One flag's entry in an instruction's flag-effect table (R17). -/
inductive FlagEffect where
  | keep
  | clear
  | set
  | compute
deriving DecidableEq, Repr

/-- A row's `flags` column, in the order Z N H C (R17). -/
structure FlagRow where
  z : FlagEffect
  n : FlagEffect
  h : FlagEffect
  c : FlagEffect
deriving DecidableEq, Repr

/-- Whether a flag's old and new value agree with its entry; a computed flag is settled by the instruction's own rule. -/
def FlagEffect.allows (k : FlagEffect) (old new : Bool) : Bool :=
  match k with
  | .keep => new == old
  | .clear => !new
  | .set => new
  | .compute => true

/-- Whether the old and new flags agree with a row. -/
def FlagRow.allows (r : FlagRow) (old new : Flags) : Bool :=
  r.z.allows old.z new.z && r.n.allows old.n new.n && r.h.allows old.h new.h && r.c.allows old.c new.c

/-- `- - - -`. -/
def FlagRow.keepAll : FlagRow := ⟨.keep, .keep, .keep, .keep⟩

/-- The `flags` column of the ALU rows. -/
def aluFlagRow : Alu → FlagRow
  | .add | .adc => ⟨.compute, .clear, .compute, .compute⟩
  | .sub | .sbc | .cp => ⟨.compute, .set, .compute, .compute⟩
  | .and => ⟨.compute, .clear, .set, .clear⟩
  | .xor | .or => ⟨.compute, .clear, .clear, .clear⟩

/-- The `flags` column of the extended rows. -/
def extFlagRow : ExtForm → FlagRow
  | .rotReg k _ | .rotHL k => ⟨.compute, .clear, .clear, if k = .swap then .clear else .compute⟩
  | .bitReg .. | .bitHL .. => ⟨.compute, .clear, .set, .keep⟩
  | .resReg .. | .resHL .. | .setReg .. | .setHL .. => .keepAll

/-- The `flags` column of opcode_table.json, by family. The row of the prefix says "those of the selected extended row"; it
is no whole instruction (`Instr.wellFormed`) and its entry here constrains nothing. -/
def flagRow : Form → FlagRow
  | .aluReg op _ | .aluHL op | .aluImm op _ => aluFlagRow op
  | .incReg .. | .incHL => ⟨.compute, .clear, .compute, .keep⟩
  | .decReg .. | .decHL => ⟨.compute, .set, .compute, .keep⟩
  | .daa => ⟨.compute, .keep, .clear, .compute⟩
  | .scf => ⟨.keep, .clear, .clear, .set⟩
  | .ccf => ⟨.keep, .clear, .clear, .compute⟩
  | .addHLPair .. => ⟨.keep, .clear, .compute, .compute⟩
  | .addSPOff .. | .ldHLSPOff .. => ⟨.clear, .clear, .compute, .compute⟩
  | .cpl => ⟨.keep, .set, .set, .keep⟩
  | .rlca | .rrca | .rla | .rra => ⟨.clear, .clear, .clear, .compute⟩
  | .pop .af => ⟨.compute, .compute, .compute, .compute⟩
  | .ext x => extFlagRow x
  | .prefixCB => ⟨.compute, .compute, .compute, .compute⟩
  | .pop .bc | .pop .de | .pop .hl | .ldRegReg .. | .ldRegImm .. | .ldRegHL .. | .ldHLReg .. | .ldHLImm ..
  | .ldABC | .ldADE | .ldBCA | .ldDEA | .ldAAbs .. | .ldAbsA .. | .ldhAC | .ldhCA | .ldhAImm .. | .ldhImmA ..
  | .ldHLIncA | .ldAHLInc | .ldHLDecA | .ldAHLDec | .ldPairImm .. | .ldAbsSP .. | .ldSPHL | .incPair .. | .decPair ..
  | .jp .. | .jpCond .. | .jpHL | .jr .. | .jrCond .. | .call .. | .callCond .. | .ret | .retCond .. | .reti | .rst ..
  | .push .. | .nop | .halt | .stop .. | .ei | .di | .illegal .. => .keepAll

/-- The general registers a pair is made of (R13). -/
def pairHalves : Pair → List Reg8
  | .bc => [.b, .c]
  | .de => [.d, .e]
  | .hl => [.h, .l]
  | .sp => []

/-- The general registers an extended instruction may write. -/
def extDestinations : ExtForm → List Reg8
  | .rotReg _ r | .resReg _ r | .setReg _ r => [r]
  | .rotHL .. | .bitReg .. | .bitHL .. | .resHL .. | .setHL .. => []

/-- The general registers an instruction may write: its destination, and HL where HL is stepped. The prefix's are those of
the extended opcode that follows it at PC. -/
def destinations (s : State) : Form → List Reg8
  | .ldRegReg r _ | .ldRegImm r _ | .ldRegHL r | .incReg r | .decReg r => [r]
  | .ldABC | .ldADE | .ldAAbs .. | .ldhAC | .ldhAImm .. | .daa | .cpl | .rlca | .rrca | .rla | .rra => [.a]
  | .ldAHLInc | .ldAHLDec => [.a, .h, .l]
  | .ldHLIncA | .ldHLDecA | .ldHLSPOff .. | .addHLPair .. => [.h, .l]
  | .ldPairImm p _ | .incPair p | .decPair p => pairHalves p
  | .aluReg op _ | .aluHL op | .aluImm op _ => if op = .cp then [] else [.a]
  | .pop .bc => [.b, .c]
  | .pop .de => [.d, .e]
  | .pop .hl => [.h, .l]
  | .pop .af => [.a]
  | .ext x => extDestinations x
  | .prefixCB => extDestinations (decodeExt (s.read s.pc))
  | .ldHLReg .. | .ldHLImm .. | .ldBCA | .ldDEA | .ldAbsA .. | .ldhCA | .ldhImmA .. | .ldAbsSP .. | .ldSPHL | .incHL
  | .decHL | .scf | .ccf | .addSPOff .. | .jp .. | .jpCond .. | .jpHL | .jr .. | .jrCond .. | .call ..
  | .callCond .. | .ret | .retCond .. | .reti | .rst .. | .push .. | .nop | .halt | .stop .. | .ei | .di | .illegal .. => []

/-- The instructions that write SP (R15). -/
def writesSP : Form → Bool
  | .ldPairImm .sp _ | .incPair .sp | .decPair .sp | .ldSPHL | .addSPOff .. | .push .. | .pop .. | .call .. | .callCond ..
  | .ret | .retCond .. | .reti | .rst .. => true
  | .ldPairImm .bc _ | .ldPairImm .de _ | .ldPairImm .hl _ | .incPair .bc | .incPair .de | .incPair .hl | .decPair .bc
  | .decPair .de | .decPair .hl | .ldRegReg .. | .ldRegImm .. | .ldRegHL .. | .ldHLReg .. | .ldHLImm ..
  | .ldABC | .ldADE | .ldBCA | .ldDEA | .ldAAbs .. | .ldAbsA .. | .ldhAC | .ldhCA | .ldhAImm .. | .ldhImmA ..
  | .ldHLIncA | .ldAHLInc | .ldHLDecA | .ldAHLDec | .ldAbsSP .. | .ldHLSPOff .. | .aluReg .. | .aluHL ..
  | .aluImm .. | .incReg .. | .incHL | .decReg .. | .decHL | .daa | .scf | .ccf | .addHLPair .. | .cpl | .rlca | .rrca
  | .rla | .rra | .jp .. | .jpCond .. | .jpHL | .jr .. | .jrCond .. | .nop | .halt | .stop .. | .ei | .di | .prefixCB
  | .illegal .. | .ext .. => false

/-- The control-flow instructions, the only ones that set PC (R15, R20), and the prefix, which fetches. -/
def writesPC : Form → Bool
  | .jp .. | .jpCond .. | .jpHL | .jr .. | .jrCond .. | .call .. | .callCond .. | .ret | .retCond .. | .reti | .rst ..
  | .prefixCB => true
  | .ldRegReg .. | .ldRegImm .. | .ldRegHL .. | .ldHLReg .. | .ldHLImm .. | .ldABC | .ldADE | .ldBCA | .ldDEA
  | .ldAAbs .. | .ldAbsA .. | .ldhAC | .ldhCA | .ldhAImm .. | .ldhImmA .. | .ldHLIncA | .ldAHLInc | .ldHLDecA
  | .ldAHLDec | .ldPairImm .. | .ldAbsSP .. | .ldSPHL | .ldHLSPOff .. | .aluReg .. | .aluHL .. | .aluImm .. | .incReg ..
  | .incHL | .decReg .. | .decHL | .daa | .scf | .ccf | .addHLPair .. | .incPair .. | .decPair .. | .addSPOff .. | .cpl
  | .rlca | .rrca | .rla | .rra | .push .. | .pop .. | .nop | .halt | .stop .. | .ei | .di | .illegal .. | .ext .. => false

/-- The addresses an extended instruction stores to. -/
def extStores (s : State) : ExtForm → List Word
  | .rotHL .. | .resHL .. | .setHL .. => [s.hl]
  | .rotReg .. | .bitReg .. | .bitHL .. | .resReg .. | .setReg .. => []

/-- The two addresses a 16-bit push stores to (R252). -/
def pushStores (s : State) : List Word := [s.sp - 1, s.sp - 2]

/-- The addresses an instruction stores to, on the state its fetch left. -/
def stores (s : State) : Form → List Word
  | .ldHLReg .. | .ldHLImm .. | .incHL | .decHL | .ldHLIncA | .ldHLDecA => [s.hl]
  | .ldBCA => [s.pair .bc]
  | .ldDEA => [s.pair .de]
  | .ldAbsA addr => [addr]
  | .ldhCA => [highAddr s.c]
  | .ldhImmA n => [highAddr n]
  | .ldAbsSP addr => [addr, addr + 1]
  | .push .. | .call .. | .rst .. => pushStores s
  | .callCond cc _ => if condHolds cc s.flags then pushStores s else []
  | .ext x => extStores s x
  | .prefixCB => extStores s (decodeExt (s.read s.pc))
  | .ldRegReg .. | .ldRegImm .. | .ldRegHL .. | .ldABC | .ldADE | .ldAAbs .. | .ldhAC | .ldhAImm .. | .ldAHLInc
  | .ldAHLDec | .ldPairImm .. | .ldSPHL | .ldHLSPOff .. | .aluReg .. | .aluHL .. | .aluImm .. | .incReg .. | .decReg ..
  | .daa | .scf | .ccf | .addHLPair .. | .incPair .. | .decPair .. | .addSPOff .. | .cpl | .rlca | .rrca | .rla | .rra
  | .jp .. | .jpCond .. | .jpHL | .jr .. | .jrCond .. | .ret | .retCond .. | .reti | .pop .. | .nop | .halt | .stop ..
  | .ei | .di | .illegal .. => []

end Sys2Proof.Machine
end

