-- ==== Sys2Proof/Certificates/Slice0/Obligations.lean ====
section
/-! DEFINITION. The statements for the provers. Each docstring names the rules of the spec it formalises, or says that it is derived.
A statement about an instruction gives its bytes, its reported cost and its next state, as its rule does; an equation
`exec i s = .next { s with … }` says at once that the instruction completes on every state and that everything not named in
it is unchanged. The state is the one the instruction's fetch left (00_scope.md section 5): PC already points past the bytes. Most
instruction rules carry the spec's own mark "from general knowledge, not in source"; they are its numbered rules all the same. -/

open Sys2Proof Sys2Proof.Machine

namespace Sys2Proof.Claims

/-! ## The spec's arithmetic, written on numbers -/

/-- The flags of `add8(a, v, c)` (R162), on numbers. -/
def addFlags (a v : Byte) (c : Bool) : Flags where
  z := decide ((a.toNat + v.toNat + c.toNat) % 256 = 0)
  n := false
  h := decide (15 < a.toNat % 16 + v.toNat % 16 + c.toNat)
  c := decide (255 < a.toNat + v.toNat + c.toNat)

/-- The result of `add8(a, v, c)` (R162). -/
def addResult (a v : Byte) (c : Bool) : Byte := BitVec.ofNat 8 (a.toNat + v.toNat + c.toNat)

/-- The flags of `sub8(a, v, c)` (R162): a borrow is a smaller minuend. -/
def subFlags (a v : Byte) (c : Bool) : Flags where
  z := decide ((a.toNat + 512 - v.toNat - c.toNat) % 256 = 0)
  n := true
  h := decide (a.toNat % 16 < v.toNat % 16 + c.toNat)
  c := decide (a.toNat < v.toNat + c.toNat)

/-- The result of `sub8(a, v, c)` (R162). -/
def subResult (a v : Byte) (c : Bool) : Byte := BitVec.ofNat 8 (a.toNat + 512 - v.toNat - c.toNat)

/-- The flags of INC (R155). -/
def incFlags (v : Byte) (f : Flags) : Flags := ⟨decide (v.toNat = 255), false, decide (v.toNat % 16 = 15), f.c⟩

/-- The flags of DEC (R157). -/
def decFlags (v : Byte) (f : Flags) : Flags := ⟨decide (v.toNat = 1), true, decide (v.toNat % 16 = 0), f.c⟩

/-- The carry that DAA leaves (R159). -/
def daaCarry (a : Byte) (f : Flags) : Bool := f.c || (!f.n && decide (0x99 < a.toNat))

/-- The correction that DAA adds or subtracts (R159). -/
def daaCorrection (a : Byte) (f : Flags) : Nat :=
  (if f.h || (!f.n && decide (9 < a.toNat % 16)) then 0x06 else 0) + (if daaCarry a f then 0x60 else 0)

/-- The accumulator after DAA (R159). -/
def daaResult (a : Byte) (f : Flags) : Byte :=
  BitVec.ofNat 8 (if f.n then a.toNat + 256 - daaCorrection a f else a.toNat + daaCorrection a f)

/-- The flags of `SP + e8` (R133, R173). -/
def spFlags (sp : Word) (e : Byte) : Flags where
  z := false
  n := false
  h := decide (15 < sp.toNat % 16 + e.toNat % 16)
  c := decide (255 < sp.toNat % 256 + e.toNat)

/-- The result byte and carry of the eight rotate and shift functions (45_rotates_shifts.md), as concatenations of bits. -/
def rotated (k : Rot) (v : Byte) (c : Bool) : Byte × Bool :=
  match k with
  | .rlc => (v.rotateLeft 1, v.msb)
  | .rrc => (v.rotateRight 1, v.getLsbD 0)
  | .rl => (v.extractLsb' 0 7 ++ BitVec.ofBool c, v.msb)
  | .rr => (BitVec.ofBool c ++ v.extractLsb' 1 7, v.getLsbD 0)
  | .sla => (v.extractLsb' 0 7 ++ 0#1, v.msb)
  | .sra => (v.sshiftRight 1, v.getLsbD 0)
  | .swap => (v.extractLsb' 0 4 ++ v.extractLsb' 4 4, false)
  | .srl => (0#1 ++ v.extractLsb' 1 7, v.getLsbD 0)

/-- The flags of an extended rotate (45_rotates_shifts.md section 2). -/
def rotatedFlags (k : Rot) (v : Byte) (c : Bool) : Flags :=
  ⟨decide ((rotated k v c).1 = 0#8), false, false, (rotated k v c).2⟩

/-- A two-digit number in packed BCD. -/
def bcd (x : Nat) : Byte := BitVec.ofNat 8 (x / 10 * 16 + x % 10)

/-- The effect of a 16-bit push (R252): the high byte at SP - 1, the low byte at SP - 2, SP two lower. -/
def pushed (w : Word) (s : State) : State :=
  { (s.write (s.sp - 1) (hiByte w)).write (s.sp - 2) (loByte w) with sp := s.sp - 2 }

/-- The word that a 16-bit pop takes from the stack (R253). -/
def stackTop (s : State) : Word := wordOf (s.read (s.sp + 1)) (s.read s.sp)

/-- The storage of the region that answers at an address is readable and writable. -/
def backed (s : State) (addr : Word) : Bool :=
  s.bus.any (fun r => r.contains addr) &&
    (s.bus.find? (fun r => r.contains addr)).all (fun r => r.readable && r.writable)

/-- No region answers a read at an address: none contains it, or the first that does is unreadable (R41, R44). -/
def unreadableAt (s : State) (addr : Word) : Prop :=
  ∀ r, s.bus.find? (fun r => r.contains addr) = some r → r.readable = false

/-- No region takes a write at an address: none contains it, or the first that does is not writable (R41, R45). -/
def unwritableAt (s : State) (addr : Word) : Prop :=
  ∀ r, s.bus.find? (fun r => r.contains addr) = some r → r.writable = false

end Sys2Proof.Claims

open Sys2Proof.Claims

/-! ## State, registers and ports -/

/-- R31, R301: the state after construction and after `reset()`, which works in every mode and touches nothing of the Bus. On the empty
Bus of construction every read gives 0x00 and every write is dropped. -/
def Obligations.ConstructionAndResetGiveTheStatedState : Prop :=
  (∀ r, State.reset.reg r = 0x00#8) ∧ State.reset.f = 0x00#8 ∧ State.reset.sp = 0xEDFF#16 ∧
    State.reset.pc = 0x0000#16 ∧ State.reset.ime = false ∧ State.reset.eiPending = false ∧
    State.reset.mode = .running ∧ State.reset.bus = [] ∧
    (∀ addr v, State.reset.read addr = 0x00#8 ∧ State.reset.write addr v = State.reset) ∧
    ∀ s : State, hostMove .reset s = some { s with
      a := 0, b := 0, c := 0, d := 0, e := 0, h := 0, l := 0, flags := ⟨false, false, false, false⟩,
      sp := 0xEDFF#16, pc := 0x0000#16, ime := false, eiPending := false, mode := .running }

/-- R10: the seven general registers are separate storage. A write of one gives it the value and changes nothing else. -/
def Obligations.RegisterWriteChangesThatRegisterAlone : Prop :=
  ∀ (s : State) (r : Reg8) (v : Byte),
    (s.setReg r v).reg r = v ∧ (∀ q, q ≠ r → (s.setReg r v).reg q = s.reg q) ∧
      (s.setReg r v).flags = s.flags ∧ (s.setReg r v).sp = s.sp ∧ (s.setReg r v).pc = s.pc ∧
      (s.setReg r v).ime = s.ime ∧ (s.setReg r v).eiPending = s.eiPending ∧
      (s.setReg r v).mode = s.mode ∧ (s.setReg r v).bus = s.bus

/-- R12, R16: F holds Z, N, H and C in bits 7 to 4 and reads zero in bits 3 to 0, whichever path wrote it: `x[F] <- v`,
`xx[AF] <- w`, POP AF and `set_register(F, v)` all store `v & 0xF0`. -/
def Obligations.FlagByteKeepsItsTopNibbleOnly : Prop :=
  ∀ (s : State) (v : Byte) (w : Word),
    s.f &&& 0x0F#8 = 0#8 ∧ s.f.getLsbD 7 = s.flags.z ∧ s.f.getLsbD 6 = s.flags.n ∧
      s.f.getLsbD 5 = s.flags.h ∧ s.f.getLsbD 4 = s.flags.c ∧ (s.setF v).f = v &&& 0xF0#8 ∧
      (s.setStackPair .af w).f = loByte w &&& 0xF0#8 ∧ (setRegister .f v s).f = v &&& 0xF0#8 ∧
      ∃ t, exec .pop_AF s = .next t ∧ t.f = s.read s.sp &&& 0xF0#8

/-- R13, R14: a pair is a view of its halves. Reading composes the current halves; writing splits the word into them (the low half
of AF through F), after which the pair reads back and each half holds its byte. -/
def Obligations.PairsAreViewsOfTheirHalves : Prop :=
  ∀ (s : State) (w : Word),
    (s.pair .bc).toNat = s.b.toNat * 256 + s.c.toNat ∧ (s.pair .de).toNat = s.d.toNat * 256 + s.e.toNat ∧
      (s.pair .hl).toNat = s.h.toNat * 256 + s.l.toNat ∧
      (s.stackPair .af).toNat = s.a.toNat * 256 + s.f.toNat ∧
      s.setPair .bc w = { s with b := hiByte w, c := loByte w } ∧
      s.setPair .de w = { s with d := hiByte w, e := loByte w } ∧
      s.setPair .hl w = { s with h := hiByte w, l := loByte w } ∧
      s.setStackPair .af w = { s.setReg .a (hiByte w) with flags := Flags.ofByte (loByte w) } ∧
      (∀ p, (s.setPair p w).pair p = w) ∧ (s.setStackPair .af w).stackPair .af = w &&& 0xFFF0#16 ∧
      (hiByte w).toNat = w.toNat / 256 ∧ (loByte w).toNat = w.toNat % 256

/-- R23, R24: the register ports. For SP and PC the byte ports reach bits 7:0 only. -/
def Obligations.RegisterPortsReadAndWriteTheirItem : Prop :=
  ∀ (s : State) (r : Reg8) (v : Byte) (w : Word),
    (getRegister s (.reg r) = s.reg r ∧ setRegister (.reg r) v s = s.setReg r v) ∧
      (getRegister s .f = s.f ∧ setRegister .f v s = s.setF v) ∧
      (getRegister s .sp = s.sp.extractLsb' 0 8 ∧
        setRegister .sp v s = { s with sp := s.sp.extractLsb' 8 8 ++ v }) ∧
      (getRegister s .pc = s.pc.extractLsb' 0 8 ∧
        setRegister .pc v s = { s with pc := s.pc.extractLsb' 8 8 ++ v }) ∧
      (getRegister16 s .af = s.stackPair .af ∧ setRegister16 .af w s = s.setStackPair .af w) ∧
      (getRegister16 s .bc = s.pair .bc ∧ setRegister16 .bc w s = s.setPair .bc w) ∧
      (getRegister16 s .de = s.pair .de ∧ setRegister16 .de w s = s.setPair .de w) ∧
      (getRegister16 s .hl = s.pair .hl ∧ setRegister16 .hl w s = s.setPair .hl w) ∧
      (getRegister16 s .sp = s.sp ∧ setRegister16 .sp w s = { s with sp := w }) ∧
      (getRegister16 s .pc = s.pc ∧ setRegister16 .pc w s = { s with pc := w })

/-- R20: `fetch()` gives the byte at PC and moves PC on by one modulo 65536 (the spec's D7); called `n` times it gives the `n`
bytes from PC on, in order, and moves PC by `n`. -/
def Obligations.FetchGivesTheBytesFromPCInOrder : Prop :=
  ∀ (s : State) (n : Nat),
    fetch s = (s.read s.pc, { s with pc := BitVec.ofNat 16 ((s.pc.toNat + 1) % 65536) }) ∧
      fetchMany n s =
        ((List.range n).map (fun k => s.read (s.pc + BitVec.ofNat 16 k)), { s with pc := s.pc + BitVec.ofNat 16 n })

/-! ## The Bus -/

/-- R41, R44, R45: the first region in registration order that contains the address answers. A read gives its byte when it is readable and
0x00 when it is not, later regions notwithstanding; a write stores one byte into it when it is writable and else changes nothing.
Where no region contains the address a read gives 0x00 and a write changes nothing. -/
def Obligations.FirstMatchingRegionAnswers : Prop :=
  ∀ (addr : Word) (v : Byte),
    (∀ bus : List Region, (∀ r ∈ bus, r.contains addr = false) →
      Bus.resolve bus addr = none ∧ Bus.read bus addr = 0x00#8 ∧ Bus.write bus addr v = bus) ∧
    (∀ (front rest : List Region) (r : Region), (∀ q ∈ front, q.contains addr = false) →
      r.first.toNat ≤ addr.toNat → addr.toNat ≤ r.last.toNat →
      Bus.resolve (front ++ r :: rest) addr = some front.length ∧
      (Bus.read (front ++ r :: rest) addr =
        if r.readable then Memory.read r.storage (addr.toNat - r.first.toNat) else 0x00#8) ∧
      Bus.write (front ++ r :: rest) addr v =
        front ++ (if r.writable then
          { r with storage := Memory.write r.storage (addr.toNat - r.first.toNat) v } else r) :: rest)

/-- Derived from R40, R44 and R45: after a write, the address reads the value where its region is readable and writable, and what
it read before where the region is not writable; every other address reads what it read before. -/
def Obligations.ReadAfterWrite : Prop :=
  ∀ (s : State) (addr other : Word) (v : Byte), s.wf = true →
    (s.write addr v).read other =
      if other = addr ∧ backed s addr = true then v else s.read other

/-- R47, R48: 16-bit accesses are little-endian, two byte accesses at `addr` and `addr + 1` modulo 65536, each resolved and
checked on its own. -/
def Obligations.WordAccessIsTwoByteAccesses : Prop :=
  ∀ (s : State) (addr w : Word),
    (s.read16 addr).toNat =
        (s.read (BitVec.ofNat 16 ((addr.toNat + 1) % 65536))).toNat * 256 + (s.read addr).toNat ∧
      s.write16 addr w =
        (s.write addr (w.extractLsb' 0 8)).write (BitVec.ofNat 16 ((addr.toNat + 1) % 65536)) (w.extractLsb' 8 8)

/-- Derived from R42 and R43: `add_region` appends a region with both permissions true, whose bytes are the block's; `set_readable`
and `set_writable` change one permission bit of the region they name and no stored byte. Two clauses are not in those rules: that an
index which names no region changes nothing is D4 and U12 (log entry 15), and that the new storage is canonical (`r.wf`) is the
model's choice (log entry 1). -/
def Obligations.RegionOperationsOfTheHost : Prop :=
  ∀ (s : State) (first last : Word) (block : List Byte) (i : Nat) (bit : Bool),
    (first.toNat ≤ last.toNat → block.length = last.toNat - first.toNat + 1 →
      ∃ r : Region, hostMove (.addRegion first last block) s = some { s with bus := s.bus ++ [r] } ∧ r.first = first ∧
        r.last = last ∧ r.readable = true ∧ r.writable = true ∧ r.wf = true ∧
        (∀ k, k < block.length → Memory.read r.storage k = block.getD k 0)) ∧
    (∀ r, s.bus[i]? = some r →
      hostMove (.setReadable i bit) s = some { s with bus := s.bus.set i { r with readable := bit } } ∧
        hostMove (.setWritable i bit) s = some { s with bus := s.bus.set i { r with writable := bit } }) ∧
    (s.bus.length ≤ i → hostMove (.setReadable i bit) s = some s ∧ hostMove (.setWritable i bit) s = some s)

/-! ## Loads -/

/-- R100 to R104: the loads of a general register, and the stores to the byte at HL. -/
def Obligations.LoadsOfARegisterAndStoresAtHL : Prop :=
  ∀ (s : State) (dst r : Reg8) (n : Byte),
    (encode (Form.ldRegReg dst r).toInstr = [1#2 ++ dst.code ++ r.code] ∧
      cycles (Form.ldRegReg dst r).toInstr s = 4 ∧
      exec (Form.ldRegReg dst r).toInstr s = .next (s.setReg dst (s.reg r))) ∧
    (encode (Form.ldRegImm dst n).toInstr = [0#2 ++ dst.code ++ 6#3, n] ∧
      cycles (Form.ldRegImm dst n).toInstr s = 8 ∧
      exec (Form.ldRegImm dst n).toInstr s = .next (s.setReg dst n)) ∧
    (encode (Form.ldRegHL dst).toInstr = [1#2 ++ dst.code ++ 6#3] ∧
      cycles (Form.ldRegHL dst).toInstr s = 8 ∧
      exec (Form.ldRegHL dst).toInstr s = .next (s.setReg dst (s.read (s.h ++ s.l)))) ∧
    (encode (Form.ldHLReg r).toInstr = [1#2 ++ 6#3 ++ r.code] ∧ cycles (Form.ldHLReg r).toInstr s = 8 ∧
      exec (Form.ldHLReg r).toInstr s = .next (s.write (s.h ++ s.l) (s.reg r))) ∧
    (encode (.ld_atHL_d8 n) = [0x36, n] ∧ cycles (.ld_atHL_d8 n) s = 12 ∧
      exec (.ld_atHL_d8 n) s = .next (s.write (s.h ++ s.l) n))

/-- R105 to R114: the loads of A from memory and the stores of A. -/
def Obligations.LoadsAndStoresOfA : Prop :=
  ∀ (s : State) (n : Byte) (addr : Word),
    (encode .ld_A_atBC = [0x0A] ∧ cycles .ld_A_atBC s = 8 ∧
      exec .ld_A_atBC s = .next { s with a := s.read (s.b ++ s.c) }) ∧
    (encode .ld_A_atDE = [0x1A] ∧ cycles .ld_A_atDE s = 8 ∧
      exec .ld_A_atDE s = .next { s with a := s.read (s.d ++ s.e) }) ∧
    (encode (.ld_A_atA16 addr) = [0xFA, loByte addr, hiByte addr] ∧ cycles (.ld_A_atA16 addr) s = 16 ∧
      exec (.ld_A_atA16 addr) s = .next { s with a := s.read addr }) ∧
    (encode .ldh_A_atC = [0xF2] ∧ cycles .ldh_A_atC s = 8 ∧
      exec .ldh_A_atC s = .next { s with a := s.read (0xFF#8 ++ s.c) }) ∧
    (encode (.ldh_A_atA8 n) = [0xF0, n] ∧ cycles (.ldh_A_atA8 n) s = 12 ∧
      exec (.ldh_A_atA8 n) s = .next { s with a := s.read (0xFF#8 ++ n) }) ∧
    (encode .ld_atBC_A = [0x02] ∧ cycles .ld_atBC_A s = 8 ∧ exec .ld_atBC_A s = .next (s.write (s.b ++ s.c) s.a)) ∧
    (encode .ld_atDE_A = [0x12] ∧ cycles .ld_atDE_A s = 8 ∧ exec .ld_atDE_A s = .next (s.write (s.d ++ s.e) s.a)) ∧
    (encode (.ld_atA16_A addr) = [0xEA, loByte addr, hiByte addr] ∧ cycles (.ld_atA16_A addr) s = 16 ∧
      exec (.ld_atA16_A addr) s = .next (s.write addr s.a)) ∧
    (encode .ldh_atC_A = [0xE2] ∧ cycles .ldh_atC_A s = 8 ∧
      exec .ldh_atC_A s = .next (s.write (0xFF#8 ++ s.c) s.a)) ∧
    (encode (.ldh_atA8_A n) = [0xE0, n] ∧ cycles (.ldh_atA8_A n) s = 12 ∧
      exec (.ldh_atA8_A n) s = .next (s.write (0xFF#8 ++ n) s.a))

/-- R115 to R118: the loads and stores that step HL after the access, modulo 65536, with no flag changed. -/
def Obligations.LoadsAndStoresThatStepHL : Prop :=
  ∀ s : State,
    (encode .ld_atHLinc_A = [0x22] ∧ cycles .ld_atHLinc_A s = 8 ∧
      exec .ld_atHLinc_A s = .next { s.write s.hl s.a with h := hiByte (s.hl + 1), l := loByte (s.hl + 1) }) ∧
    (encode .ld_A_atHLinc = [0x2A] ∧ cycles .ld_A_atHLinc s = 8 ∧
      exec .ld_A_atHLinc s =
        .next { s with a := s.read s.hl, h := hiByte (s.hl + 1), l := loByte (s.hl + 1) }) ∧
    (encode .ld_atHLdec_A = [0x32] ∧ cycles .ld_atHLdec_A s = 8 ∧
      exec .ld_atHLdec_A s = .next { s.write s.hl s.a with h := hiByte (s.hl - 1), l := loByte (s.hl - 1) }) ∧
    (encode .ld_A_atHLdec = [0x3A] ∧ cycles .ld_A_atHLdec s = 8 ∧
      exec .ld_A_atHLdec s =
        .next { s with a := s.read s.hl, h := hiByte (s.hl - 1), l := loByte (s.hl - 1) })

/-- R130, R131, R132: the 16-bit loads. `LD (a16),SP` stores the low byte of SP at the address and the high byte after it. -/
def Obligations.SixteenBitLoads : Prop :=
  ∀ (s : State) (p : Pair) (w : Word),
    (encode (Form.ldPairImm p w).toInstr = [0#2 ++ p.code ++ 0#1 ++ 1#3, loByte w, hiByte w] ∧
      cycles (Form.ldPairImm p w).toInstr s = 12 ∧
      exec (Form.ldPairImm p w).toInstr s = .next (s.setPair p w)) ∧
    (encode (.ld_atA16_SP w) = [0x08, loByte w, hiByte w] ∧ cycles (.ld_atA16_SP w) s = 20 ∧
      exec (.ld_atA16_SP w) s = .next ((s.write w (loByte s.sp)).write (w + 1) (hiByte s.sp))) ∧
    (encode .ld_SP_HL = [0xF9] ∧ cycles .ld_SP_HL s = 8 ∧ exec .ld_SP_HL s = .next { s with sp := s.h ++ s.l })

/-- R133, R173: SP plus a signed displacement, into HL or into SP, with the flags of the unsigned addition of the low bytes. -/
def Obligations.StackPointerPlusDisplacement : Prop :=
  ∀ (s : State) (e : Byte),
    (encode (.ld_HL_SPe8 e) = [0xF8, e] ∧ cycles (.ld_HL_SPe8 e) s = 12 ∧
      exec (.ld_HL_SPe8 e) s =
        .next { s with h := hiByte (s.sp + e.signExtend 16), l := loByte (s.sp + e.signExtend 16),
                       flags := spFlags s.sp e }) ∧
    (encode (.add_SP_e8 e) = [0xE8, e] ∧ cycles (.add_SP_e8 e) s = 16 ∧
      exec (.add_SP_e8 e) s = .next { s with sp := s.sp + e.signExtend 16, flags := spFlags s.sp e })

/-! ## Arithmetic and logic -/

/-- R140 to R145: ADD and ADC in their register, memory and immediate forms. -/
def Obligations.AddAndAddWithCarry : Prop :=
  ∀ (s : State) (r : Reg8) (n : Byte),
    (encode (Form.aluReg .add r).toInstr = [2#2 ++ 0#3 ++ r.code] ∧ cycles (Form.aluReg .add r).toInstr s = 4 ∧
      exec (Form.aluReg .add r).toInstr s =
        .next { s with a := addResult s.a (s.reg r) false, flags := addFlags s.a (s.reg r) false }) ∧
    (encode .add_A_atHL = [0x86] ∧ cycles .add_A_atHL s = 8 ∧
      exec .add_A_atHL s =
        .next { s with a := addResult s.a (s.read s.hl) false, flags := addFlags s.a (s.read s.hl) false }) ∧
    (encode (.add_A_d8 n) = [0xC6, n] ∧ cycles (.add_A_d8 n) s = 8 ∧
      exec (.add_A_d8 n) s = .next { s with a := addResult s.a n false, flags := addFlags s.a n false }) ∧
    (encode (Form.aluReg .adc r).toInstr = [2#2 ++ 1#3 ++ r.code] ∧ cycles (Form.aluReg .adc r).toInstr s = 4 ∧
      exec (Form.aluReg .adc r).toInstr s =
        .next { s with a := addResult s.a (s.reg r) s.flags.c, flags := addFlags s.a (s.reg r) s.flags.c }) ∧
    (encode .adc_A_atHL = [0x8E] ∧ cycles .adc_A_atHL s = 8 ∧
      exec .adc_A_atHL s =
        .next { s with a := addResult s.a (s.read s.hl) s.flags.c, flags := addFlags s.a (s.read s.hl) s.flags.c }) ∧
    (encode (.adc_A_d8 n) = [0xCE, n] ∧ cycles (.adc_A_d8 n) s = 8 ∧
      exec (.adc_A_d8 n) s =
        .next { s with a := addResult s.a n s.flags.c, flags := addFlags s.a n s.flags.c })

/-- R146 to R154: SUB, SBC and CP in their register, memory and immediate forms. CP writes the flags of SUB and nothing else. -/
def Obligations.SubtractAndCompare : Prop :=
  ∀ (s : State) (r : Reg8) (n : Byte),
    (encode (Form.aluReg .sub r).toInstr = [2#2 ++ 2#3 ++ r.code] ∧ cycles (Form.aluReg .sub r).toInstr s = 4 ∧
      exec (Form.aluReg .sub r).toInstr s =
        .next { s with a := subResult s.a (s.reg r) false, flags := subFlags s.a (s.reg r) false }) ∧
    (encode .sub_A_atHL = [0x96] ∧ cycles .sub_A_atHL s = 8 ∧
      exec .sub_A_atHL s =
        .next { s with a := subResult s.a (s.read s.hl) false, flags := subFlags s.a (s.read s.hl) false }) ∧
    (encode (.sub_A_d8 n) = [0xD6, n] ∧ cycles (.sub_A_d8 n) s = 8 ∧
      exec (.sub_A_d8 n) s = .next { s with a := subResult s.a n false, flags := subFlags s.a n false }) ∧
    (encode (Form.aluReg .sbc r).toInstr = [2#2 ++ 3#3 ++ r.code] ∧ cycles (Form.aluReg .sbc r).toInstr s = 4 ∧
      exec (Form.aluReg .sbc r).toInstr s =
        .next { s with a := subResult s.a (s.reg r) s.flags.c, flags := subFlags s.a (s.reg r) s.flags.c }) ∧
    (encode .sbc_A_atHL = [0x9E] ∧ cycles .sbc_A_atHL s = 8 ∧
      exec .sbc_A_atHL s =
        .next { s with a := subResult s.a (s.read s.hl) s.flags.c, flags := subFlags s.a (s.read s.hl) s.flags.c }) ∧
    (encode (.sbc_A_d8 n) = [0xDE, n] ∧ cycles (.sbc_A_d8 n) s = 8 ∧
      exec (.sbc_A_d8 n) s =
        .next { s with a := subResult s.a n s.flags.c, flags := subFlags s.a n s.flags.c }) ∧
    (encode (Form.aluReg .cp r).toInstr = [2#2 ++ 7#3 ++ r.code] ∧ cycles (Form.aluReg .cp r).toInstr s = 4 ∧
      exec (Form.aluReg .cp r).toInstr s = .next { s with flags := subFlags s.a (s.reg r) false }) ∧
    (encode .cp_A_atHL = [0xBE] ∧ cycles .cp_A_atHL s = 8 ∧
      exec .cp_A_atHL s = .next { s with flags := subFlags s.a (s.read s.hl) false }) ∧
    (encode (.cp_A_d8 n) = [0xFE, n] ∧ cycles (.cp_A_d8 n) s = 8 ∧
      exec (.cp_A_d8 n) s = .next { s with flags := subFlags s.a n false })

/-- R180 to R188: AND, XOR and OR. AND sets H. -/
def Obligations.LogicOperations : Prop :=
  ∀ (s : State) (r : Reg8) (n : Byte),
    (encode (Form.aluReg .and r).toInstr = [2#2 ++ 4#3 ++ r.code] ∧ cycles (Form.aluReg .and r).toInstr s = 4 ∧
      exec (Form.aluReg .and r).toInstr s =
        .next { s with a := s.a &&& s.reg r, flags := ⟨decide (s.a &&& s.reg r = 0#8), false, true, false⟩ }) ∧
    (encode .and_A_atHL = [0xA6] ∧ cycles .and_A_atHL s = 8 ∧
      exec .and_A_atHL s =
        .next { s with a := s.a &&& s.read s.hl, flags := ⟨decide (s.a &&& s.read s.hl = 0#8), false, true, false⟩ }) ∧
    (encode (.and_A_d8 n) = [0xE6, n] ∧ cycles (.and_A_d8 n) s = 8 ∧
      exec (.and_A_d8 n) s = .next { s with a := s.a &&& n, flags := ⟨decide (s.a &&& n = 0#8), false, true, false⟩ }) ∧
    (encode (Form.aluReg .xor r).toInstr = [2#2 ++ 5#3 ++ r.code] ∧ cycles (Form.aluReg .xor r).toInstr s = 4 ∧
      exec (Form.aluReg .xor r).toInstr s =
        .next { s with a := s.a ^^^ s.reg r, flags := ⟨decide (s.a ^^^ s.reg r = 0#8), false, false, false⟩ }) ∧
    (encode .xor_A_atHL = [0xAE] ∧ cycles .xor_A_atHL s = 8 ∧
      exec .xor_A_atHL s =
        .next { s with a := s.a ^^^ s.read s.hl, flags := ⟨decide (s.a ^^^ s.read s.hl = 0#8), false, false, false⟩ }) ∧
    (encode (.xor_A_d8 n) = [0xEE, n] ∧ cycles (.xor_A_d8 n) s = 8 ∧
      exec (.xor_A_d8 n) s = .next { s with a := s.a ^^^ n, flags := ⟨decide (s.a ^^^ n = 0#8), false, false, false⟩ }) ∧
    (encode (Form.aluReg .or r).toInstr = [2#2 ++ 6#3 ++ r.code] ∧ cycles (Form.aluReg .or r).toInstr s = 4 ∧
      exec (Form.aluReg .or r).toInstr s =
        .next { s with a := s.a ||| s.reg r, flags := ⟨decide (s.a ||| s.reg r = 0#8), false, false, false⟩ }) ∧
    (encode .or_A_atHL = [0xB6] ∧ cycles .or_A_atHL s = 8 ∧
      exec .or_A_atHL s =
        .next { s with a := s.a ||| s.read s.hl, flags := ⟨decide (s.a ||| s.read s.hl = 0#8), false, false, false⟩ }) ∧
    (encode (.or_A_d8 n) = [0xF6, n] ∧ cycles (.or_A_d8 n) s = 8 ∧
      exec (.or_A_d8 n) s = .next { s with a := s.a ||| n, flags := ⟨decide (s.a ||| n = 0#8), false, false, false⟩ })

/-- R155 to R158: INC and DEC of a register and of the byte at HL; C is not touched, and the `(HL)` forms set the flags of the
byte read even where the write is dropped. -/
def Obligations.IncrementAndDecrementKeepCarry : Prop :=
  ∀ (s : State) (r : Reg8),
    (encode (Form.incReg r).toInstr = [0#2 ++ r.code ++ 4#3] ∧ cycles (Form.incReg r).toInstr s = 4 ∧
      exec (Form.incReg r).toInstr s =
        .next { s.setReg r (s.reg r + 1) with flags := incFlags (s.reg r) s.flags }) ∧
    (encode .inc_atHL = [0x34] ∧ cycles .inc_atHL s = 12 ∧
      exec .inc_atHL s =
        .next { s.write s.hl (s.read s.hl + 1) with flags := incFlags (s.read s.hl) s.flags }) ∧
    (encode (Form.decReg r).toInstr = [0#2 ++ r.code ++ 5#3] ∧ cycles (Form.decReg r).toInstr s = 4 ∧
      exec (Form.decReg r).toInstr s =
        .next { s.setReg r (s.reg r - 1) with flags := decFlags (s.reg r) s.flags }) ∧
    (encode .dec_atHL = [0x35] ∧ cycles .dec_atHL s = 12 ∧
      exec .dec_atHL s =
        .next { s.write s.hl (s.read s.hl - 1) with flags := decFlags (s.read s.hl) s.flags })

/-- R159: DAA. Both tests of the addition branch look at A before any adjustment; N is kept, H cleared, C never cleared. -/
def Obligations.DecimalAdjust : Prop :=
  ∀ s : State,
    encode .daa = [0x27] ∧ cycles .daa s = 4 ∧
      exec .daa s =
        .next { s with
          a := daaResult s.a s.flags,
          flags := ⟨decide (daaResult s.a s.flags = 0#8), s.flags.n, false, daaCarry s.a s.flags⟩ }

/-- Derived from R142, R148 and R159: on packed BCD operands, ADD then DAA gives the decimal sum and SUB then DAA the decimal
difference, modulo 100, with C the decimal carry or borrow. -/
def Obligations.DecimalAdjustGivesDecimalArithmetic : Prop :=
  ∀ (s : State) (x y : Nat), x < 100 → y < 100 →
    (∃ t u, exec (.add_A_d8 (bcd y)) { s with a := bcd x } = .next t ∧ exec .daa t = .next u ∧
      u.a = bcd ((x + y) % 100) ∧ u.flags.c = decide (100 ≤ x + y)) ∧
    (∃ t u, exec (.sub_A_d8 (bcd y)) { s with a := bcd x } = .next t ∧ exec .daa t = .next u ∧
      u.a = bcd ((x + 100 - y) % 100) ∧ u.flags.c = decide (x < y))

/-- R160, R161, R189: SCF, CCF and CPL. -/
def Obligations.CarryFlagAndComplement : Prop :=
  ∀ s : State,
    (encode .scf = [0x37] ∧ cycles .scf s = 4 ∧ exec .scf s = .next { s with flags := ⟨s.flags.z, false, false, true⟩ }) ∧
    (encode .ccf = [0x3F] ∧ cycles .ccf s = 4 ∧
      exec .ccf s = .next { s with flags := ⟨s.flags.z, false, false, !s.flags.c⟩ }) ∧
    (encode .cpl = [0x2F] ∧ cycles .cpl s = 4 ∧
      exec .cpl s = .next { s with a := ~~~s.a, flags := ⟨s.flags.z, true, true, s.flags.c⟩ })

/-- R170, R171, R172: 16-bit addition, increment and decrement. H and C of the addition are the carries out of bits 11 and 15; Z
is kept; INC and DEC of a pair touch no flag. -/
def Obligations.SixteenBitArithmetic : Prop :=
  ∀ (s : State) (p : Pair),
    (encode (Form.addHLPair p).toInstr = [0#2 ++ p.code ++ 1#1 ++ 1#3] ∧ cycles (Form.addHLPair p).toInstr s = 8 ∧
      exec (Form.addHLPair p).toInstr s =
        .next { s with
          h := hiByte (s.hl + s.pair p), l := loByte (s.hl + s.pair p),
          flags := ⟨s.flags.z, false, decide (0x0FFF < s.hl.toNat % 0x1000 + (s.pair p).toNat % 0x1000),
            decide (0xFFFF < s.hl.toNat + (s.pair p).toNat)⟩ }) ∧
    (encode (Form.incPair p).toInstr = [0#2 ++ p.code ++ 0#1 ++ 3#3] ∧ cycles (Form.incPair p).toInstr s = 8 ∧
      exec (Form.incPair p).toInstr s = .next (s.setPair p (s.pair p + 1))) ∧
    (encode (Form.decPair p).toInstr = [0#2 ++ p.code ++ 1#1 ++ 3#3] ∧ cycles (Form.decPair p).toInstr s = 8 ∧
      exec (Form.decPair p).toInstr s = .next (s.setPair p (s.pair p - 1)))

/-- R190 to R195: BIT sets Z to the complement of the tested bit, clears N, sets H and keeps C, and writes nothing else; RES and SET
write the operand with one bit cleared or set, and no flag. -/
def Obligations.BitTestClearAndSet : Prop :=
  ∀ (s : State) (i : Index8) (r : Reg8),
    (encode (Form.ext (.bitReg i r)).toInstr = [0xCB, 1#2 ++ BitVec.ofNat 3 i.val ++ r.code] ∧
      cycles (Form.ext (.bitReg i r)).toInstr s = 8 ∧
      exec (Form.ext (.bitReg i r)).toInstr s =
        .next { s with flags := ⟨!(s.reg r).getLsbD i.val, false, true, s.flags.c⟩ }) ∧
    (encode (Form.ext (.bitHL i)).toInstr = [0xCB, 1#2 ++ BitVec.ofNat 3 i.val ++ 6#3] ∧
      cycles (Form.ext (.bitHL i)).toInstr s = 12 ∧
      exec (Form.ext (.bitHL i)).toInstr s =
        .next { s with flags := ⟨!(s.read s.hl).getLsbD i.val, false, true, s.flags.c⟩ }) ∧
    (encode (Form.ext (.resReg i r)).toInstr = [0xCB, 2#2 ++ BitVec.ofNat 3 i.val ++ r.code] ∧
      cycles (Form.ext (.resReg i r)).toInstr s = 8 ∧
      exec (Form.ext (.resReg i r)).toInstr s = .next (s.setReg r (s.reg r &&& ~~~(1#8 <<< i.val)))) ∧
    (encode (Form.ext (.resHL i)).toInstr = [0xCB, 2#2 ++ BitVec.ofNat 3 i.val ++ 6#3] ∧
      cycles (Form.ext (.resHL i)).toInstr s = 16 ∧
      exec (Form.ext (.resHL i)).toInstr s = .next (s.write s.hl (s.read s.hl &&& ~~~(1#8 <<< i.val)))) ∧
    (encode (Form.ext (.setReg i r)).toInstr = [0xCB, 3#2 ++ BitVec.ofNat 3 i.val ++ r.code] ∧
      cycles (Form.ext (.setReg i r)).toInstr s = 8 ∧
      exec (Form.ext (.setReg i r)).toInstr s = .next (s.setReg r (s.reg r ||| 1#8 <<< i.val))) ∧
    (encode (Form.ext (.setHL i)).toInstr = [0xCB, 3#2 ++ BitVec.ofNat 3 i.val ++ 6#3] ∧
      cycles (Form.ext (.setHL i)).toInstr s = 16 ∧
      exec (Form.ext (.setHL i)).toInstr s = .next (s.write s.hl (s.read s.hl ||| 1#8 <<< i.val)))

/-! ## Rotates and shifts -/

/-- R200 to R203: the accumulator rotates. They clear Z whatever the result. -/
def Obligations.AccumulatorRotatesClearZ : Prop :=
  ∀ s : State,
    (encode .rlca = [0x07] ∧ cycles .rlca s = 4 ∧
      exec .rlca s = .next { s with a := s.a.rotateLeft 1, flags := ⟨false, false, false, s.a.msb⟩ }) ∧
    (encode .rrca = [0x0F] ∧ cycles .rrca s = 4 ∧
      exec .rrca s = .next { s with a := s.a.rotateRight 1, flags := ⟨false, false, false, s.a.getLsbD 0⟩ }) ∧
    (encode .rla = [0x17] ∧ cycles .rla s = 4 ∧
      exec .rla s =
        .next { s with
          a := s.a.extractLsb' 0 7 ++ BitVec.ofBool s.flags.c, flags := ⟨false, false, false, s.a.msb⟩ }) ∧
    (encode .rra = [0x1F] ∧ cycles .rra s = 4 ∧
      exec .rra s =
        .next { s with
          a := BitVec.ofBool s.flags.c ++ s.a.extractLsb' 1 7, flags := ⟨false, false, false, s.a.getLsbD 0⟩ })

/-- R204, R206, R208, R210, R212, R214, R216, R218: the register forms of the extended rotates and shifts. -/
def Obligations.RegisterRotatesAndShifts : Prop :=
  ∀ (s : State) (k : Rot) (r : Reg8),
    encode (Form.ext (.rotReg k r)).toInstr = [0xCB, 0#2 ++ k.code ++ r.code] ∧
      cycles (Form.ext (.rotReg k r)).toInstr s = 8 ∧
      exec (Form.ext (.rotReg k r)).toInstr s =
        .next { s.setReg r (rotated k (s.reg r) s.flags.c).1 with flags := rotatedFlags k (s.reg r) s.flags.c }

/-- R205, R207, R209, R211, R213, R215, R217, R219: the `(HL)` forms; the flags reflect the computed result even where the
write is dropped. -/
def Obligations.MemoryRotatesAndShifts : Prop :=
  ∀ (s : State) (k : Rot),
    encode (Form.ext (.rotHL k)).toInstr = [0xCB, 0#2 ++ k.code ++ 6#3] ∧
      cycles (Form.ext (.rotHL k)).toInstr s = 16 ∧
      exec (Form.ext (.rotHL k)).toInstr s =
        .next { s.write s.hl (rotated k (s.read s.hl) s.flags.c).1 with
          flags := rotatedFlags k (s.read s.hl) s.flags.c }

/-! ## Control flow and stack -/

/-- R230 to R234: the jumps. A conditional jump that is not taken leaves PC after its operand bytes; a relative one is relative to that
address. -/
def Obligations.Jumps : Prop :=
  ∀ (s : State) (cc : Cond) (addr : Word) (e : Byte),
    (encode (.jp_a16 addr) = [0xC3, loByte addr, hiByte addr] ∧ cycles (.jp_a16 addr) s = 16 ∧
      exec (.jp_a16 addr) s = .next { s with pc := addr }) ∧
    (encode (Form.jpCond cc addr).toInstr = [3#2 ++ 0#1 ++ cc.code ++ 2#3, loByte addr, hiByte addr] ∧
      cycles (Form.jpCond cc addr).toInstr s = (if condHolds cc s.flags then 16 else 12) ∧
      exec (Form.jpCond cc addr).toInstr s =
        .next { s with pc := if condHolds cc s.flags then addr else s.pc }) ∧
    (encode .jp_HL = [0xE9] ∧ cycles .jp_HL s = 4 ∧ exec .jp_HL s = .next { s with pc := s.h ++ s.l }) ∧
    (encode (.jr_e8 e) = [0x18, e] ∧ cycles (.jr_e8 e) s = 12 ∧
      exec (.jr_e8 e) s = .next { s with pc := s.pc + e.signExtend 16 }) ∧
    (encode (Form.jrCond cc e).toInstr = [0#2 ++ 1#1 ++ cc.code ++ 0#3, e] ∧
      cycles (Form.jrCond cc e).toInstr s = (if condHolds cc s.flags then 12 else 8) ∧
      exec (Form.jrCond cc e).toInstr s =
        .next { s with pc := if condHolds cc s.flags then s.pc + e.signExtend 16 else s.pc })

/-- R235 to R240: the calls push PC, high byte first, and jump; the returns pop PC, low byte first; a call or return that is not taken
leaves the stack alone. RETI sets IME at once and leaves no pending EI. -/
def Obligations.CallsAndReturns : Prop :=
  ∀ (s : State) (cc : Cond) (addr : Word) (y : Index8),
    (encode (.call_a16 addr) = [0xCD, loByte addr, hiByte addr] ∧ cycles (.call_a16 addr) s = 24 ∧
      exec (.call_a16 addr) s = .next { pushed s.pc s with pc := addr }) ∧
    (encode (Form.callCond cc addr).toInstr = [3#2 ++ 0#1 ++ cc.code ++ 4#3, loByte addr, hiByte addr] ∧
      cycles (Form.callCond cc addr).toInstr s = (if condHolds cc s.flags then 24 else 12) ∧
      exec (Form.callCond cc addr).toInstr s =
        .next (if condHolds cc s.flags then { pushed s.pc s with pc := addr } else s)) ∧
    (encode (Form.rst y).toInstr = [3#2 ++ BitVec.ofNat 3 y.val ++ 7#3] ∧ cycles (Form.rst y).toInstr s = 16 ∧
      exec (Form.rst y).toInstr s = .next { pushed s.pc s with pc := BitVec.ofNat 16 (8 * y.val) }) ∧
    (encode .ret = [0xC9] ∧ cycles .ret s = 16 ∧
      exec .ret s = .next { s with pc := stackTop s, sp := s.sp + 2 }) ∧
    (encode (Form.retCond cc).toInstr = [3#2 ++ 0#1 ++ cc.code ++ 0#3] ∧
      cycles (Form.retCond cc).toInstr s = (if condHolds cc s.flags then 20 else 8) ∧
      exec (Form.retCond cc).toInstr s =
        .next (if condHolds cc s.flags then { s with pc := stackTop s, sp := s.sp + 2 } else s)) ∧
    (encode .reti = [0xD9] ∧ cycles .reti s = 16 ∧
      exec .reti s = .next { s with pc := stackTop s, sp := s.sp + 2, ime := true, eiPending := false })

/-- Derived from R250, R251, R252, R253: the stack primitives, a 16-bit push being two byte pushes, high byte first. Where the bytes
below SP are readable and writable, a push followed by a pop gives the value back and leaves SP where it was. The clause
`pop s = (s.read s.sp, …)` gives the stored byte of a readable region that is not writable: R251's pseudocode and R44, where R63
and R251's last sentence say 0x00 (log entry 13, the model's choice). -/
def Obligations.StackPrimitives : Prop :=
  ∀ (s : State) (v : Byte) (w : Word),
    push v s = { s.write (s.sp - 1) v with sp := s.sp - 1 } ∧ pop s = (s.read s.sp, { s with sp := s.sp + 1 }) ∧
      push16 w s = push (loByte w) (push (hiByte w) s) ∧ push16 w s = pushed w s ∧
      pop16 s = (wordOf (pop (pop s).2).1 (pop s).1, (pop (pop s).2).2) ∧
      pop16 s = (stackTop s, { s with sp := s.sp + 2 }) ∧
      (s.wf = true → backed s (s.sp - 1) = true →
        pop (push v s) = (v, { push v s with sp := s.sp }) ∧
          (backed s (s.sp - 2) = true →
            pop16 (push16 w s) = (w, { push16 w s with sp := s.sp }) ∧ (push16 w s).read16 (s.sp - 2) = w))

/-- R254, R256, R257: PUSH and POP. POP AF loads the four flags from the byte at SP. -/
def Obligations.PushAndPop : Prop :=
  ∀ (s : State) (p : StackPair),
    (encode (Form.push p).toInstr = [3#2 ++ p.code ++ 0#1 ++ 5#3] ∧ cycles (Form.push p).toInstr s = 16 ∧
      exec (Form.push p).toInstr s = .next (pushed (s.stackPair p) s)) ∧
    (encode (Form.pop p).toInstr = [3#2 ++ p.code ++ 0#1 ++ 1#3] ∧ cycles (Form.pop p).toInstr s = 12) ∧
    exec .pop_BC s = .next { s with b := s.read (s.sp + 1), c := s.read s.sp, sp := s.sp + 2 } ∧
    exec .pop_DE s = .next { s with d := s.read (s.sp + 1), e := s.read s.sp, sp := s.sp + 2 } ∧
    exec .pop_HL s = .next { s with h := s.read (s.sp + 1), l := s.read s.sp, sp := s.sp + 2 } ∧
    exec .pop_AF s =
      .next { s with
        a := s.read (s.sp + 1), sp := s.sp + 2,
        flags := ⟨(s.read s.sp).getLsbD 7, (s.read s.sp).getLsbD 6, (s.read s.sp).getLsbD 5,
          (s.read s.sp).getLsbD 4⟩ }

/-- Derived from R258 and the premise of R251: PUSH then POP of the same pair leaves the pair, SP and every other register as they
were, where the two bytes below SP are readable and writable. -/
def Obligations.PushThenPopRestores : Prop :=
  ∀ (s : State) (p : StackPair), s.wf = true → backed s (s.sp - 1) = true → backed s (s.sp - 2) = true →
    ∃ t u, exec (Form.push p).toInstr s = .next t ∧ exec (Form.pop p).toInstr t = .next u ∧ u = { s with bus := t.bus }

/-! ## System instructions, exceptions, interrupts -/

/-- R260, R261, R262, R263, R264, as the state after `execute`: the delayed effect of EI is in `EnableTakesEffectAfterTheNext`. -/
def Obligations.SystemInstructions : Prop :=
  ∀ (s : State) (n : Byte),
    (encode .nop = [0x00] ∧ cycles .nop s = 4 ∧ exec .nop s = .next s) ∧
    (encode .halt = [0x76] ∧ cycles .halt s = 4 ∧ exec .halt s = .next { s with mode := .halted }) ∧
    (encode (.stop n) = [0x10, n] ∧ cycles (.stop n) s = 4 ∧ exec (.stop n) s = .next { s with mode := .stopped }) ∧
    (encode .ei = [0xFB] ∧ cycles .ei s = 4 ∧ exec .ei s = .next { s with eiPending := true }) ∧
    (encode .di = [0xF3] ∧ cycles .di s = 4 ∧ exec .di s = .next { s with ime := false, eiPending := false })

/-- Derived from R266, R280 and R304: the eleven illegal code points raise IllegalOpcode, whose whole effect is mode Locked. No number
of steps changes a Locked Engine, and no host move but `reset()` and the port `execute` makes it anything but Locked. That the
exception is a next state and no fault outcome is the model's choice (log entry 6); that `execute`, which ignores the mode (R304),
may end a lock is its reading of two rules (log entry 9), weaker than R266, which names `reset()` alone. -/
def Obligations.IllegalOpcodesLock : Prop :=
  (∀ (s : State) (k : IllegalCode),
    encode (Form.illegal k).toInstr = [match k with
        | .d3 => 0xD3 | .db => 0xDB | .dd => 0xDD | .e3 => 0xE3 | .e4 => 0xE4 | .eb => 0xEB
        | .ec => 0xEC | .ed => 0xED | .f4 => 0xF4 | .fc => 0xFC | .fd => 0xFD] ∧
      cycles (Form.illegal k).toInstr s = 4 ∧ exec (Form.illegal k).toInstr s = .next { s with mode := .locked }) ∧
    ∀ s : State, s.mode = .locked →
      (∀ n, Host.Core.run core n s = .next s) ∧
      ∀ m t, hostMove m s = some t → t.mode = .locked ∨ m = .reset ∨ ∃ op, m = .execute op

/-- Derived from R265 and R74: the prefix fetches `cb` and executes the extended instruction it selects, at that instruction's cost,
whether it is met as an instruction or given to `execute`; the byte after it is never read as a base opcode, not even when it is
0xCB again. That the prefix is an instruction of its own, encoded in one byte, is the model's choice (log entry 5): R265's encoding is
0xCB followed by `cb`. -/
def Obligations.PrefixRunsTheSelectedInstruction : Prop :=
  ∀ s : State,
    encode .prefix_CB = [0xCB] ∧
      ∃ (x : ExtForm) (t : State), decode [0xCB, s.read s.pc] = .ok (x.toInstr, []) ∧
        cycles .prefix_CB s = cycles x.toInstr { s with pc := s.pc + 1 } ∧
        exec x.toInstr { s with pc := s.pc + 1 } = .next t ∧ exec .prefix_CB s = .next t ∧
        execute 0xCB#8 s = .next t

/-- R286, R287: `interrupt(v)` is accepted only in Running or Halted with IME set; it clears IME and `ei_pending`, makes the Engine run,
pushes PC high byte first and goes to `v`. `wake()` makes a Halted or Stopped Engine run and changes nothing else. In every other
state the operation has no move. -/
def Obligations.InterruptEntryAndWake : Prop :=
  ∀ (s : State) (v : Word),
    ((s.mode = .running ∨ s.mode = .halted) ∧ s.ime = true →
      hostMove (.interrupt v) s =
        some { pushed s.pc s with ime := false, eiPending := false, mode := .running, pc := v }) ∧
    (s.mode = .stopped ∨ s.mode = .locked ∨ s.ime = false → hostMove (.interrupt v) s = none) ∧
    Config.interruptCycles = 20 ∧
    (s.mode = .halted ∨ s.mode = .stopped → hostMove .wake s = some { s with mode := .running }) ∧
    (s.mode = .running ∨ s.mode = .locked → hostMove .wake s = none)

/-- Derived from R286, R289 and R239: an interrupt followed at once by RETI resumes where the program was, with IME set, where the two
bytes below SP are readable and writable. -/
def Obligations.InterruptThenReturnResumes : Prop :=
  ∀ (s : State) (v : Word), s.wf = true → s.mode = .running ∨ s.mode = .halted → s.ime = true →
    backed s (s.sp - 1) = true → backed s (s.sp - 2) = true →
    ∃ t u, hostMove (.interrupt v) s = some t ∧ exec .reti t = .next u ∧
      u = { s with mode := .running, ime := true, eiPending := false, bus := t.bus }

/-! ## The step -/

/-- R303: in Locked, Halted and Stopped a step changes nothing and reports 4 cycles. A running step, when the bytes at PC decode to an
instruction, is that instruction's execution on the state with PC past its bytes and `ei_pending` cleared, then the delayed
enable where `ei_pending` was set and the opcode is not DI's; it reports the instruction's cost. -/
def Obligations.StepRunsTheDecodedInstruction : Prop :=
  (∀ s : State, s.mode = .locked ∨ s.mode = .halted ∨ s.mode = .stopped → step s = .next s ∧ stepCycles s = 4) ∧
  ∀ (s : State) (i : Instr) (rest : List Byte), s.mode = .running → decode (bytesAt s s.pc 3) = .ok (i, rest) →
    ∃ t, exec i { s with pc := s.pc + BitVec.ofNat 16 i.length, eiPending := false } = .next t ∧
      step s = .next { t with ime := t.ime || (s.eiPending && decide (s.read s.pc ≠ 0xF3#8)) } ∧
      stepCycles s = cycles i { s with pc := s.pc + BitVec.ofNat 16 i.length, eiPending := false }

/-- Derived from R62, R41, R44 and R260: a running Engine whose PC is in unmapped or unreadable space executes a NOP. The first region
that contains PC decides: where it is unreadable, a readable one after it does not matter. -/
def Obligations.UnmappedFetchIsNop : Prop :=
  ∀ s : State, s.mode = .running → unreadableAt s s.pc →
    step s = .next { s with pc := s.pc + 1, eiPending := false, ime := s.ime || s.eiPending }

/-- Derived from R263, R264 and R303: EI sets only `ei_pending`; the step after it sets IME at its end whatever instruction it runs,
unless that is DI, which leaves IME clear. -/
def Obligations.EnableTakesEffectAfterTheNext : Prop :=
  ∀ s : State, s.mode = .running →
    (s.read s.pc = 0xFB#8 →
      step s = .next { s with pc := s.pc + 1, eiPending := true, ime := s.ime || s.eiPending }) ∧
    (s.eiPending = true → s.read s.pc ≠ 0xF3#8 → ∃ t, step s = .next t ∧ t.ime = true) ∧
    (s.read s.pc = 0xF3#8 → ∃ t, step s = .next t ∧ t.ime = false ∧ t.eiPending = false)

/-- Derived from R281 and R305: every step completes; no access, operation or code point ends in a fault or a refusal. R280 calls the
illegal opcode an exception; that its step is a next state, in mode Locked, is the model's choice (log entry 6). -/
def Obligations.EveryStepCompletes : Prop := ∀ s : State, ∃ t, step s = .next t

/-- Derived from R306, R230, R233: a state at the end of a run is left as it is by every further step; a running one must have no EI
pending, since the step would clear it. -/
def Obligations.EndOfRunIsStable : Prop :=
  ∀ (s : State) (n : Nat), endOfRun s = true → (s.mode = .running → s.eiPending = false) → Host.Core.run core n s = .next s

/-! ## Encoding -/

/-- R78 to R83: the field code tables. The register-select field goes through the shared function, which ignores bits 7:3 of its
argument; its code 6 is the byte at HL. -/
def Obligations.FieldCodeTables : Prop :=
  (∀ byte : Byte, getRegisterFromByte byte =
      [Operand8.reg .b, .reg .c, .reg .d, .reg .e, .reg .h, .reg .l, .atHL, .reg .a].getD (byte.toNat % 8) .atHL) ∧
    (∀ (s : State) (r : Reg8) (v : Byte), s.operand (.reg r) = s.reg r ∧ s.setOperand (.reg r) v = s.setReg r v ∧
      s.operand .atHL = s.read (s.pair .hl) ∧ s.setOperand .atHL v = s.write (s.pair .hl) v) ∧
    (List.finRange 4).map (fun k => Pair.ofCode (BitVec.ofFin k)) = [.bc, .de, .hl, .sp] ∧
    (List.finRange 4).map (fun k => StackPair.ofCode (BitVec.ofFin k)) = [.bc, .de, .hl, .af] ∧
    (List.finRange 8).map (fun k => Cond.ofCode (BitVec.ofFin k)) = [.nz, .z, .nc, .c, .nz, .z, .nc, .c] ∧
    (∀ f : Flags, condHolds .nz f = !f.z ∧ condHolds .z f = f.z ∧ condHolds .nc f = !f.c ∧ condHolds .c f = f.c) ∧
    (List.finRange 8).map (fun k => Alu.ofCode (BitVec.ofFin k)) = [.add, .adc, .sub, .sbc, .and, .xor, .or, .cp] ∧
    (List.finRange 8).map (fun k => Rot.ofCode (BitVec.ofFin k)) = [.rlc, .rrc, .rl, .rr, .sla, .sra, .swap, .srl] ∧
    (List.finRange 8).map (fun k => indexOfCode (BitVec.ofFin k)) = [0, 1, 2, 3, 4, 5, 6, 7] ∧
    (List.finRange 8).map restartTarget = [0x00#16, 0x08#16, 0x10#16, 0x18#16, 0x20#16, 0x28#16, 0x30#16, 0x38#16]

/-- Derived from R70, R84, R85 and R87, a sanity check: words written out from the encodings decode to what they stand for. -/
def Obligations.WrittenWordsDecode : Prop :=
  decode [0b01111000] = .ok (.ld_A_B, []) ∧ decode [0b00111110, 0x05] = .ok (.ld_A_d8 0x05, []) ∧
    decode [0b00110001, 0xFE, 0xFF] = .ok (.ld_SP_d16 0xFFFE, []) ∧ decode [0b10010110] = .ok (.sub_A_atHL, []) ∧
    decode [0b00111001] = .ok (.add_HL_SP, []) ∧ decode [0b11001011, 0b01111100] = .ok (.bit_7_H, []) ∧
    decode [0b11001011, 0b00110111] = .ok (.swap_A, []) ∧ decode [0b00110000, 0x03] = .ok (.jr_NC_e8 0x03, []) ∧
    decode [0b11110001] = .ok (.pop_AF, []) ∧ decode [0b00010000, 0x3C] = .ok (.stop 0x3C, []) ∧
    decode [0b11001011, 0b11001011] = .ok (.set_1_E, []) ∧ decode [0b11011101] = .ok (.illegal_DD, [])

/-- Derived from R70, R73, R84, R85: whatever three bytes stand at PC, they begin with exactly one whole instruction, of one to three
bytes. -/
def Obligations.EveryByteStreamHoldsAnInstruction : Prop :=
  ∀ b0 b1 b2 : Byte, ∃ i rest, decode [b0, b1, b2] = .ok (i, rest) ∧ i.wellFormed = true ∧
    1 ≤ i.length ∧ i.length ≤ 3 ∧ rest.length + i.length = 3

/-- Derived from R70 to R85: decoding the bytes of a whole instruction gives it back, with every operand at every value, and the bytes
after it. The second clause is no rule: that the prefix byte alone decodes to `prefix_CB` is the model's choice (log entry 5). -/
def Obligations.DecodeOfEncodeIsTheInstruction : Prop :=
  (∀ (i : Instr) (rest : List Byte), i.wellFormed = true → decode (encode i ++ rest) = .ok (i, rest)) ∧
    decode (encode .prefix_CB) = .ok (.prefix_CB, [])

/-- Derived from R70 to R85: the bytes that decode to an instruction are the bytes it encodes to, so no two byte strings decode to one
instruction and no bit is ignored. -/
def Obligations.EncodeOfDecodeIsTheBytes : Prop :=
  ∀ (bytes : List Byte) (i : Instr) (rest : List Byte), decode bytes = .ok (i, rest) → encode i ++ rest = bytes

/-! ## Whole-machine rules -/

/-- R17: for every instruction, the flags its flag-effect table does not list are unchanged, and those it sets or clears are
set or cleared. -/
def Obligations.FlagsOutsideTheTableAreUnchanged : Prop :=
  ∀ (i : Instr) (s : State), i.wellFormed = true →
    ∃ t, exec i s = .next t ∧ (flagRow i.form).allows s.flags t.flags = true

/-- Derived from R15 and the instruction rules: an instruction writes no general register but its destinations, SP only where it is a
stack or SP instruction, PC only where it is control flow. -/
def Obligations.RegistersNotNamedAreUnchanged : Prop :=
  ∀ (i : Instr) (s : State),
    ∃ t, exec i s = .next t ∧ (∀ r, r ∉ destinations s i.form → t.reg r = s.reg r) ∧
      (writesSP i.form = false → t.sp = s.sp) ∧ (writesPC i.form = false → t.pc = s.pc)

/-- Derived from R45, R52 and the instruction rules: every byte of memory outside the addresses an instruction stores to reads as
before. -/
def Obligations.MemoryOutsideTheStoresIsUnchanged : Prop :=
  ∀ (i : Instr) (s : State),
    ∃ t, exec i s = .next t ∧ (stores s i.form = [] → t.bus = s.bus) ∧
      ∀ addr, addr ∉ stores s i.form → t.read addr = s.read addr

/-- Derived from R27, R28, R29: of all instructions, only DI and RETI write IME, only EI, DI and RETI write `ei_pending`, and only
HALT, STOP and the illegal code points write the mode. -/
def Obligations.ControlStateHasFewWriters : Prop :=
  ∀ (i : Instr) (s : State),
    ∃ t, exec i s = .next t ∧
      t.ime = (match i with | .di => false | .reti => true | _ => s.ime) ∧
      t.eiPending = (match i with | .ei => true | .di => false | .reti => false | _ => s.eiPending) ∧
      t.mode = (match i.form with | .halt => .halted | .stop _ => .stopped | .illegal _ => .locked | _ => s.mode)

/-- Derived from R43, R45 and R46: a step never changes the number, the bounds or the permission bits of the regions, nor any byte of a
region that is not writable. -/
def Obligations.StepRespectsPermissions : Prop :=
  ∀ s t : State, step s = .next t →
    t.bus.length = s.bus.length ∧
      ∀ (k : Nat) (r : Region), s.bus[k]? = some r →
        ∃ r', t.bus[k]? = some r' ∧ r'.first = r.first ∧ r'.last = r.last ∧ r'.readable = r.readable ∧
          r'.writable = r.writable ∧ (r.writable = false → r'.storage = r.storage)

/-- Derived from R44: two states that differ only in the bytes of unreadable regions step to states that differ only there. No program
can learn such a byte. -/
def Obligations.UnreadableBytesCannotBeLearnt : Prop :=
  ∀ s s' : State, s.observable = s'.observable →
    ∃ t t', step s = .next t ∧ step s' = .next t' ∧ t.observable = t'.observable ∧ stepCycles s = stepCycles s'

/-- Derived from R40 and R45: a step keeps every region admissible. That storage is canonical, with rising offsets and no listed zero,
is the model's choice (log entry 1), and a step keeps that too. -/
def Obligations.StepKeepsTheInvariant : Prop := ∀ s t : State, s.wf = true → step s = .next t → t.wf = true

/-- Derived from R40, R42, R43, R45: every host move keeps the invariant too. The canonical storage in it is the model's choice (log
entry 1), and so is that `addRegion` with inadmissible arguments has no move (log entry 10). -/
def Obligations.HostMovesKeepTheInvariant : Prop :=
  ∀ (s t : State) (m : HostMove), s.wf = true → hostMove m s = some t → t.wf = true

/-- Derived from R301: the invariant, whose canonical storage is the model's choice (log entry 1), holds after construction. -/
def Obligations.ConstructionMeetsTheInvariant : Prop := State.reset.wf = true

/-! ## The port `execute`, and a stack without memory -/

/-- Derived from R304 and R310: for every opcode and in every mode, `execute(op)` is the instruction that `op` and the bytes at PC
decode to, on the state with PC past the bytes after `op`; `op` itself is not fetched, `ei_pending` is as the instruction leaves it
and there is no delayed enable; the cost is the instruction's. In mode Locked this is the reading of log entry 9, and an illegal `op`
is a next state by log entry 6. -/
def Obligations.ExecutePortActsAsIfJustFetched : Prop :=
  ∀ (op : Byte) (s : State), ∃ (i : Instr) (rest : List Byte) (t : State),
    decode (op :: bytesAt s s.pc 2) = .ok (i, rest) ∧
      exec i { s with pc := s.pc + BitVec.ofNat 16 (i.length - 1) } = .next t ∧ execute op s = .next t ∧
      hostMove (.execute op) s = some t ∧
      executeCycles op s = cycles i { s with pc := s.pc + BitVec.ofNat 16 (i.length - 1) }

/-- Derived from R63, R44, R45, R250 to R253, R237, R240 and R286: where no region takes the writes below SP, a push, an RST (R240: to
8 times `y`) or a trap entry (R286: IME and `ei_pending` cleared, mode Running, PC at `w`) changes no byte and SP still moves; where no
region answers the reads at SP, a pop gives 0x0000, SP still moves, and RET goes to 0x0000. A pop from a readable region that is not
writable is in `StackPrimitives` (log entry 13). -/
def Obligations.StackWithoutMemoryLosesItsBytes : Prop :=
  ∀ (s : State) (w : Word) (y : Index8),
    (unwritableAt s (s.sp - 1) → unwritableAt s (s.sp - 2) →
      push16 w s = { s with sp := s.sp - 2 } ∧
        exec (Form.rst y).toInstr s = .next { s with sp := s.sp - 2, pc := BitVec.ofNat 16 (8 * y.val) } ∧
        enterInterrupt w s =
          { s with sp := s.sp - 2, pc := w, ime := false, eiPending := false, mode := .running }) ∧
    (unreadableAt s s.sp → unreadableAt s (s.sp + 1) →
      pop16 s = (0x0000#16, { s with sp := s.sp + 2 }) ∧
        exec .ret s = .next { s with sp := s.sp + 2, pc := 0x0000#16 })
end

