-- ==== Sys2Proof/Laws/Memory.lean ====
section
/-! SUPPORT. The laws of one region's storage: a read after a write, the canonical form kept by every operation, the form unique for
its contents, and the storage made of a byte block. -/

namespace Sys2Proof.Machine

@[simp] theorem Memory.read_nil (i : Nat) : Memory.read [] i = unlistedByte := rfl

theorem Memory.read_cons (k : Nat) (w : Byte) (m : Memory) (i : Nat) :
    Memory.read ((k, w) :: m) i = if k = i then w else Memory.read m i := rfl

theorem Memory.wfFrom_cons {lo k : Nat} {w : Byte} {m : Memory} :
    Memory.wfFrom lo ((k, w) :: m) = true ↔ lo ≤ k ∧ w ≠ unlistedByte ∧ Memory.wfFrom (k + 1) m = true := by
  simp [Memory.wfFrom, and_assoc]

/-- The canonical form from a later offset on holds from an earlier one on. -/
theorem Memory.wfFrom_mono {lo lo' : Nat} {m : Memory} (h : Memory.wfFrom lo m = true) (hle : lo' ≤ lo) :
    Memory.wfFrom lo' m = true := by
  cases m with
  | nil => rfl
  | cons cell m => obtain ⟨h1, h2⟩ := Memory.wfFrom_cons.1 h; exact Memory.wfFrom_cons.2 ⟨by omega, h2⟩

/-- Below its first possible offset, canonical storage lists nothing. -/
theorem Memory.read_below {lo : Nat} {m : Memory} (h : Memory.wfFrom lo m = true) {i : Nat} (hi : i < lo) :
    Memory.read m i = unlistedByte := by
  induction m generalizing lo with
  | nil => rfl
  | cons cell m ih =>
    obtain ⟨k, w⟩ := cell
    obtain ⟨h1, -, h3⟩ := Memory.wfFrom_cons.1 h
    rw [Memory.read_cons, if_neg (by omega)]
    exact ih h3 (by omega)

/-- A write leaves every other offset alone, whatever form the storage has. -/
theorem Memory.read_write_of_ne (m : Memory) {i j : Nat} (hne : j ≠ i) (v : Byte) :
    Memory.read (Memory.write m i v) j = Memory.read m j := by
  induction m with
  | nil => simp only [Memory.write]; split <;> grind [Memory.read_nil, Memory.read_cons]
  | cons cell m ih =>
    obtain ⟨k, w⟩ := cell
    simp only [Memory.write]
    repeat' split
    all_goals simp only [Memory.read_cons]
    all_goals grind

/-- A write gives the value at its offset and leaves every other offset alone. -/
theorem Memory.read_write {lo : Nat} {m : Memory} (h : Memory.wfFrom lo m = true) (i j : Nat) (v : Byte) :
    Memory.read (Memory.write m i v) j = if j = i then v else Memory.read m j := by
  induction m generalizing lo with
  | nil =>
    simp only [Memory.write]
    split <;> simp only [Memory.read_nil, Memory.read_cons] <;> grind
  | cons cell m ih =>
    obtain ⟨k, w⟩ := cell
    obtain ⟨-, -, h3⟩ := Memory.wfFrom_cons.1 h
    have hb : ∀ j, j < k + 1 → Memory.read m j = unlistedByte := fun j hj => Memory.read_below h3 hj
    simp only [Memory.write]
    split
    · have := hb i (by omega)
      split <;> simp only [Memory.read_cons] <;> grind
    · split
      · have := hb i (by omega)
        split <;> simp only [Memory.read_cons] <;> grind
      · have := ih h3
        simp only [Memory.read_cons]
        grind

/-- A write keeps the canonical form. -/
theorem Memory.wfFrom_write {lo : Nat} {m : Memory} (h : Memory.wfFrom lo m = true) {i : Nat} (hi : lo ≤ i) (v : Byte) :
    Memory.wfFrom lo (Memory.write m i v) = true := by
  induction m generalizing lo with
  | nil =>
    simp only [Memory.write]
    split
    · rfl
    · rename_i hv; exact Memory.wfFrom_cons.2 ⟨hi, hv, rfl⟩
  | cons cell m ih =>
    obtain ⟨k, w⟩ := cell
    obtain ⟨h1, h2, h3⟩ := Memory.wfFrom_cons.1 h
    simp only [Memory.write]
    split
    · split
      · exact h
      · rename_i hik hv
        exact Memory.wfFrom_cons.2 ⟨hi, hv, Memory.wfFrom_cons.2 ⟨hik, h2, h3⟩⟩
    · split
      · split
        · exact Memory.wfFrom_mono h3 (by omega)
        · rename_i hik hv
          exact Memory.wfFrom_cons.2 ⟨hi, hv, hik ▸ h3⟩
      · exact Memory.wfFrom_cons.2 ⟨h1, h2, ih h3 (by omega)⟩

theorem Memory.wf_write {m : Memory} (h : Memory.wf m = true) (i : Nat) (v : Byte) : Memory.wf (Memory.write m i v) = true :=
  Memory.wfFrom_write h (Nat.zero_le i) v

theorem Memory.within_cons {size k : Nat} {w : Byte} {m : Memory} :
    Memory.within size ((k, w) :: m) = true ↔ k < size ∧ Memory.within size m = true := by
  rw [Memory.within, List.all_cons, Bool.and_eq_true, decide_eq_true_eq]; rfl

/-- A write below the size lists nothing at or above it. -/
theorem Memory.within_write {size : Nat} {m : Memory} (h : Memory.within size m = true) {i : Nat} (hi : i < size)
    (v : Byte) : Memory.within size (Memory.write m i v) = true := by
  induction m with
  | nil =>
    simp only [Memory.write]
    split
    · exact h
    · exact Memory.within_cons.2 ⟨hi, h⟩
  | cons cell m ih =>
    obtain ⟨k, w⟩ := cell
    obtain ⟨h1, h2⟩ := Memory.within_cons.1 h
    simp only [Memory.write]
    repeat' split
    · exact h
    · exact Memory.within_cons.2 ⟨hi, h⟩
    · exact h2
    · exact Memory.within_cons.2 ⟨hi, h2⟩
    · exact Memory.within_cons.2 ⟨h1, ih h2⟩

/-- Two canonical storages with the same contents are the same list. -/
theorem Memory.ext_of_wf {lo : Nat} {m m' : Memory} (h : Memory.wfFrom lo m = true) (h' : Memory.wfFrom lo m' = true)
    (heq : ∀ i, Memory.read m i = Memory.read m' i) : m = m' := by
  induction m generalizing lo m' with
  | nil =>
    cases m' with
    | nil => rfl
    | cons cell m' =>
      obtain ⟨k, w⟩ := cell
      obtain ⟨-, h2, -⟩ := Memory.wfFrom_cons.1 h'
      have := heq k
      simp only [Memory.read_nil, Memory.read_cons, if_true] at this
      exact absurd this.symm h2
  | cons cell m ih =>
    obtain ⟨k, w⟩ := cell
    obtain ⟨h1, h2, h3⟩ := Memory.wfFrom_cons.1 h
    cases m' with
    | nil =>
      have := heq k
      simp only [Memory.read_nil, Memory.read_cons, if_true] at this
      exact absurd this h2
    | cons cell' m' =>
      obtain ⟨k', w'⟩ := cell'
      obtain ⟨h1', h2', h3'⟩ := Memory.wfFrom_cons.1 h'
      have hk : k = k' := by
        rcases Nat.lt_trichotomy k k' with hlt | heq' | hlt
        · have := heq k
          simp only [Memory.read_cons, if_true] at this
          rw [if_neg (by omega), Memory.read_below h3' (by omega)] at this
          exact absurd this h2
        · exact heq'
        · have := heq k'
          simp only [Memory.read_cons, if_true] at this
          rw [if_neg (by omega), Memory.read_below h3 (by omega)] at this
          exact absurd this.symm h2'
      subst hk
      have hw : w = w' := by simpa [Memory.read_cons] using heq k
      subst hw
      congr 1
      refine ih h3 h3' fun i => ?_
      by_cases hi : k = i
      · rw [Memory.read_below h3 (by omega), Memory.read_below h3' (by omega)]
      · simpa [Memory.read_cons, hi] using heq i

theorem Memory.wfFrom_ofBytesFrom (k : Nat) (block : List Byte) : Memory.wfFrom k (Memory.ofBytesFrom k block) = true := by
  induction block generalizing k with
  | nil => rfl
  | cons v vs ih =>
    simp only [Memory.ofBytesFrom]
    split
    · exact Memory.wfFrom_mono (ih (k + 1)) (by omega)
    · rename_i hv; exact Memory.wfFrom_cons.2 ⟨Nat.le_refl k, hv, ih (k + 1)⟩

/-- The storage of a byte block is canonical. -/
theorem Memory.wf_ofBytes (block : List Byte) : Memory.wf (Memory.ofBytes block) = true := Memory.wfFrom_ofBytesFrom 0 block

theorem Memory.within_ofBytesFrom (k : Nat) (block : List Byte) :
    Memory.within (k + block.length) (Memory.ofBytesFrom k block) = true := by
  induction block generalizing k with
  | nil => rfl
  | cons v vs ih =>
    have := ih (k + 1)
    rw [List.length_cons, show k + (vs.length + 1) = k + 1 + vs.length by omega]
    simp only [Memory.ofBytesFrom]
    split
    · exact this
    · simp only [Memory.within, List.all_cons, Bool.and_eq_true, decide_eq_true_eq]
      exact ⟨by omega, this⟩

theorem Memory.read_ofBytesFrom (k : Nat) (block : List Byte) (i : Nat) :
    Memory.read (Memory.ofBytesFrom k block) (k + i) = block.getD i unlistedByte := by
  induction block generalizing k i with
  | nil => rfl
  | cons v vs ih =>
    simp only [Memory.ofBytesFrom]
    cases i with
    | zero =>
      split
      · rename_i hv
        rw [Memory.read_below (Memory.wfFrom_ofBytesFrom (k + 1) vs) (by omega), List.getD_cons_zero, hv]
      · simp [Memory.read_cons]
    | succ i =>
      have := ih (k + 1) i
      rw [show k + (i + 1) = k + 1 + i by omega, List.getD_cons_succ]
      split
      · exact this
      · rw [Memory.read_cons, if_neg (by omega)]; exact this

end Sys2Proof.Machine
end

