-- ==== Sys2Proof/Laws/State.lean ====
section
/-! SUPPORT. The small lemmas of the register and memory accessors: each field after each update, and reading what was written.
Proofs rewrite with these and unfold no record update. -/

namespace Sys2Proof.Machine

/-! ## Words and their bytes -/

@[simp] theorem hiByte_wordOf (hi lo : Byte) : hiByte (wordOf hi lo) = hi := by
  apply BitVec.eq_of_getLsbD_eq
  intro k hk
  simp only [hiByte, wordOf, BitVec.getLsbD_extractLsb', BitVec.getLsbD_append, hk, decide_true, Bool.true_and]
  simp

@[simp] theorem loByte_wordOf (hi lo : Byte) : loByte (wordOf hi lo) = lo := by
  apply BitVec.eq_of_getLsbD_eq
  intro k hk
  simp only [loByte, wordOf, BitVec.getLsbD_extractLsb', BitVec.getLsbD_append, hk, decide_true, Bool.true_and]
  simp [hk]

@[simp] theorem wordOf_hiByte_loByte (w : Word) : wordOf (hiByte w) (loByte w) = w := by
  apply BitVec.eq_of_getLsbD_eq
  intro k hk
  simp only [hiByte, loByte, wordOf, BitVec.getLsbD_extractLsb', BitVec.getLsbD_append]
  by_cases h : k < 8
  · simp [h]
  · have : k - 8 < 8 := by omega
    have e : 8 + (k - 8) = k := by omega
    simp [h, this, e]

theorem toNat_wordOf (hi lo : Byte) : (wordOf hi lo).toNat = hi.toNat * 256 + lo.toNat := by
  simp only [wordOf, BitVec.toNat_append, Nat.shiftLeft_eq]
  rw [← Nat.shiftLeft_eq, ← Nat.shiftLeft_add_eq_or_of_lt lo.isLt, Nat.shiftLeft_eq]

theorem toNat_hiByte (w : Word) : (hiByte w).toNat = w.toNat / 256 := by
  have := w.isLt
  simp only [hiByte, BitVec.extractLsb'_toNat, Nat.shiftRight_eq_div_pow]
  omega

theorem toNat_loByte (w : Word) : (loByte w).toNat = w.toNat % 256 := by
  simp [loByte, BitVec.extractLsb'_toNat]

/-! ## The flag byte -/

@[simp] theorem Flags.ofByte_toByte (f : Flags) : Flags.ofByte f.toByte = f := by
  obtain ⟨z, n, h, c⟩ := f
  cases z <;> cases n <;> cases h <;> cases c <;> rfl

theorem Flags.toByte_ofByte (v : Byte) : (Flags.ofByte v).toByte = v &&& 0xF0#8 := by
  revert v; decide

/-! ## Registers after updates -/

theorem State.reg_setReg (s : State) (r q : Reg8) (v : Byte) :
    (s.setReg r v).reg q = if q = r then v else s.reg q := by cases r <;> cases q <;> rfl
@[simp] theorem State.reg_setReg_same (s : State) (r : Reg8) (v : Byte) : (s.setReg r v).reg r = v := by
  cases r <;> rfl
@[simp] theorem State.setReg_reg (s : State) (r : Reg8) : s.setReg r (s.reg r) = s := by cases r <;> rfl
@[simp] theorem State.setReg_flags (s : State) (r : Reg8) (v : Byte) : (s.setReg r v).flags = s.flags := by cases r <;> rfl
@[simp] theorem State.setReg_sp (s : State) (r : Reg8) (v : Byte) : (s.setReg r v).sp = s.sp := by cases r <;> rfl
@[simp] theorem State.setReg_pc (s : State) (r : Reg8) (v : Byte) : (s.setReg r v).pc = s.pc := by cases r <;> rfl
@[simp] theorem State.setReg_ime (s : State) (r : Reg8) (v : Byte) : (s.setReg r v).ime = s.ime := by cases r <;> rfl
@[simp] theorem State.setReg_eiPending (s : State) (r : Reg8) (v : Byte) : (s.setReg r v).eiPending = s.eiPending := by cases r <;> rfl
@[simp] theorem State.setReg_mode (s : State) (r : Reg8) (v : Byte) : (s.setReg r v).mode = s.mode := by cases r <;> rfl
@[simp] theorem State.setReg_bus (s : State) (r : Reg8) (v : Byte) : (s.setReg r v).bus = s.bus := by cases r <;> rfl

@[simp] theorem State.setF_reg (s : State) (v : Byte) (r : Reg8) : (s.setF v).reg r = s.reg r := by cases r <;> rfl
@[simp] theorem State.setF_flags (s : State) (v : Byte) : (s.setF v).flags = Flags.ofByte v := rfl
@[simp] theorem State.setF_sp (s : State) (v : Byte) : (s.setF v).sp = s.sp := rfl
@[simp] theorem State.setF_pc (s : State) (v : Byte) : (s.setF v).pc = s.pc := rfl
@[simp] theorem State.setF_ime (s : State) (v : Byte) : (s.setF v).ime = s.ime := rfl
@[simp] theorem State.setF_eiPending (s : State) (v : Byte) : (s.setF v).eiPending = s.eiPending := rfl
@[simp] theorem State.setF_mode (s : State) (v : Byte) : (s.setF v).mode = s.mode := rfl
@[simp] theorem State.setF_bus (s : State) (v : Byte) : (s.setF v).bus = s.bus := rfl

theorem State.setPair_hl (s : State) (w : Word) : s.setPair .hl w = s.setHL w := rfl
theorem State.pair_hl (s : State) : s.pair .hl = s.hl := rfl
@[simp] theorem State.pair_setPair_same (s : State) (p : Pair) (w : Word) : (s.setPair p w).pair p = w := by
  cases p <;> simp [State.setPair, State.pair]
@[simp] theorem State.setPair_sp (s : State) (p : Pair) (w : Word) :
    (s.setPair p w).sp = if p = .sp then w else s.sp := by cases p <;> rfl
@[simp] theorem State.setPair_flags (s : State) (p : Pair) (w : Word) : (s.setPair p w).flags = s.flags := by cases p <;> rfl
@[simp] theorem State.setPair_pc (s : State) (p : Pair) (w : Word) : (s.setPair p w).pc = s.pc := by cases p <;> rfl
@[simp] theorem State.setPair_ime (s : State) (p : Pair) (w : Word) : (s.setPair p w).ime = s.ime := by cases p <;> rfl
@[simp] theorem State.setPair_eiPending (s : State) (p : Pair) (w : Word) : (s.setPair p w).eiPending = s.eiPending := by cases p <;> rfl
@[simp] theorem State.setPair_mode (s : State) (p : Pair) (w : Word) : (s.setPair p w).mode = s.mode := by cases p <;> rfl
@[simp] theorem State.setPair_bus (s : State) (p : Pair) (w : Word) : (s.setPair p w).bus = s.bus := by cases p <;> rfl

@[simp] theorem State.hl_setHL (s : State) (w : Word) : (s.setHL w).hl = w := by simp [State.setHL, State.hl]
@[simp] theorem State.setHL_a (s : State) (w : Word) : (s.setHL w).a = s.a := rfl
@[simp] theorem State.setHL_b (s : State) (w : Word) : (s.setHL w).b = s.b := rfl
@[simp] theorem State.setHL_c (s : State) (w : Word) : (s.setHL w).c = s.c := rfl
@[simp] theorem State.setHL_d (s : State) (w : Word) : (s.setHL w).d = s.d := rfl
@[simp] theorem State.setHL_e (s : State) (w : Word) : (s.setHL w).e = s.e := rfl
@[simp] theorem State.setHL_h (s : State) (w : Word) : (s.setHL w).h = hiByte w := rfl
@[simp] theorem State.setHL_l (s : State) (w : Word) : (s.setHL w).l = loByte w := rfl
@[simp] theorem State.setHL_flags (s : State) (w : Word) : (s.setHL w).flags = s.flags := rfl
@[simp] theorem State.setHL_sp (s : State) (w : Word) : (s.setHL w).sp = s.sp := rfl
@[simp] theorem State.setHL_pc (s : State) (w : Word) : (s.setHL w).pc = s.pc := rfl
@[simp] theorem State.setHL_ime (s : State) (w : Word) : (s.setHL w).ime = s.ime := rfl
@[simp] theorem State.setHL_eiPending (s : State) (w : Word) : (s.setHL w).eiPending = s.eiPending := rfl
@[simp] theorem State.setHL_mode (s : State) (w : Word) : (s.setHL w).mode = s.mode := rfl
@[simp] theorem State.setHL_bus (s : State) (w : Word) : (s.setHL w).bus = s.bus := rfl

@[simp] theorem State.stackPair_setStackPair_same (s : State) (p : StackPair) (w : Word) (h : p ≠ .af) :
    (s.setStackPair p w).stackPair p = w := by
  cases p <;> first | exact absurd rfl h | simp [State.setStackPair, State.stackPair]
theorem State.setStackPair_flags (s : State) (p : StackPair) (w : Word) :
    (s.setStackPair p w).flags = if p = .af then Flags.ofByte (loByte w) else s.flags := by cases p <;> rfl
@[simp] theorem State.setStackPair_stackPair (s : State) (p : StackPair) : s.setStackPair p (s.stackPair p) = s := by
  cases p <;> simp [State.setStackPair, State.stackPair, State.f]
@[simp] theorem State.setStackPair_sp (s : State) (p : StackPair) (w : Word) : (s.setStackPair p w).sp = s.sp := by cases p <;> rfl
@[simp] theorem State.setStackPair_pc (s : State) (p : StackPair) (w : Word) : (s.setStackPair p w).pc = s.pc := by cases p <;> rfl
@[simp] theorem State.setStackPair_ime (s : State) (p : StackPair) (w : Word) : (s.setStackPair p w).ime = s.ime := by cases p <;> rfl
@[simp] theorem State.setStackPair_eiPending (s : State) (p : StackPair) (w : Word) : (s.setStackPair p w).eiPending = s.eiPending := by cases p <;> rfl
@[simp] theorem State.setStackPair_mode (s : State) (p : StackPair) (w : Word) : (s.setStackPair p w).mode = s.mode := by cases p <;> rfl
@[simp] theorem State.setStackPair_bus (s : State) (p : StackPair) (w : Word) : (s.setStackPair p w).bus = s.bus := by cases p <;> rfl

/-! ## Registers after a store -/

@[simp] theorem State.write_reg (s : State) (addr : Word) (v : Byte) (r : Reg8) : (s.write addr v).reg r = s.reg r := by
  cases r <;> rfl
@[simp] theorem State.write_a (s : State) (addr : Word) (v : Byte) : (s.write addr v).a = s.a := rfl
@[simp] theorem State.write_b (s : State) (addr : Word) (v : Byte) : (s.write addr v).b = s.b := rfl
@[simp] theorem State.write_c (s : State) (addr : Word) (v : Byte) : (s.write addr v).c = s.c := rfl
@[simp] theorem State.write_d (s : State) (addr : Word) (v : Byte) : (s.write addr v).d = s.d := rfl
@[simp] theorem State.write_e (s : State) (addr : Word) (v : Byte) : (s.write addr v).e = s.e := rfl
@[simp] theorem State.write_h (s : State) (addr : Word) (v : Byte) : (s.write addr v).h = s.h := rfl
@[simp] theorem State.write_l (s : State) (addr : Word) (v : Byte) : (s.write addr v).l = s.l := rfl
@[simp] theorem State.write_flags (s : State) (addr : Word) (v : Byte) : (s.write addr v).flags = s.flags := rfl
@[simp] theorem State.write_sp (s : State) (addr : Word) (v : Byte) : (s.write addr v).sp = s.sp := rfl
@[simp] theorem State.write_pc (s : State) (addr : Word) (v : Byte) : (s.write addr v).pc = s.pc := rfl
@[simp] theorem State.write_ime (s : State) (addr : Word) (v : Byte) : (s.write addr v).ime = s.ime := rfl
@[simp] theorem State.write_eiPending (s : State) (addr : Word) (v : Byte) : (s.write addr v).eiPending = s.eiPending := rfl
@[simp] theorem State.write_mode (s : State) (addr : Word) (v : Byte) : (s.write addr v).mode = s.mode := rfl
@[simp] theorem State.write_bus (s : State) (addr : Word) (v : Byte) : (s.write addr v).bus = Bus.write s.bus addr v := rfl
@[simp] theorem State.write_hl (s : State) (addr : Word) (v : Byte) : (s.write addr v).hl = s.hl := rfl
@[simp] theorem State.write_f (s : State) (addr : Word) (v : Byte) : (s.write addr v).f = s.f := rfl

/-! ## Reads see the Bus alone -/

theorem State.read_eq (s : State) (addr : Word) : s.read addr = Bus.read s.bus addr := rfl

theorem State.read_congr (s t : State) (h : s.bus = t.bus) (addr : Word) : s.read addr = t.read addr := by
  simp only [State.read_eq, h]

@[simp] theorem State.read_setReg (s : State) (r : Reg8) (v : Byte) (addr : Word) : (s.setReg r v).read addr = s.read addr :=
  State.read_congr _ _ (by simp) addr
@[simp] theorem State.read_setPair (s : State) (p : Pair) (w addr : Word) : (s.setPair p w).read addr = s.read addr :=
  State.read_congr _ _ (by simp) addr
@[simp] theorem State.read_setHL (s : State) (w addr : Word) : (s.setHL w).read addr = s.read addr := rfl
@[simp] theorem State.read_setStackPair (s : State) (p : StackPair) (w addr : Word) :
    (s.setStackPair p w).read addr = s.read addr := State.read_congr _ _ (by simp) addr
@[simp] theorem State.read_setF (s : State) (v : Byte) (addr : Word) : (s.setF v).read addr = s.read addr := rfl

@[simp] theorem State.setOperand_reg (s : State) (r : Reg8) (v : Byte) : s.setOperand (.reg r) v = s.setReg r v := rfl
@[simp] theorem State.setOperand_atHL (s : State) (v : Byte) : s.setOperand .atHL v = s.write s.hl v := rfl
@[simp] theorem State.operand_reg (s : State) (r : Reg8) : s.operand (.reg r) = s.reg r := rfl
@[simp] theorem State.operand_atHL (s : State) : s.operand .atHL = s.read s.hl := rfl

end Sys2Proof.Machine
end

