-- ==== Sys2Proof/Laws/Bus.lean ====
section
/-! SUPPORT. The laws of the Bus: read and write by recursion on the region list, what a write may change, and that every operation
keeps regions admissible and storage canonical. -/

namespace Sys2Proof.Machine

/-! ## Recursion on the region list -/

@[simp] theorem Bus.read_nil (addr : Word) : Bus.read [] addr = 0#8 := rfl
@[simp] theorem Bus.write_nil (addr : Word) (v : Byte) : Bus.write [] addr v = [] := rfl

theorem Bus.resolve_cons (r : Region) (bus : List Region) (addr : Word) :
    Bus.resolve (r :: bus) addr = if r.contains addr then some 0 else (Bus.resolve bus addr).map (· + 1) := rfl

theorem Bus.read_cons (r : Region) (bus : List Region) (addr : Word) :
    Bus.read (r :: bus) addr =
      if r.contains addr then (if r.readable then r.load addr else 0#8) else Bus.read bus addr := by
  simp only [Bus.read, Bus.resolve_cons]
  by_cases h : r.contains addr = true
  · simp only [h, if_true]; rfl
  · simp only [h]; cases Bus.resolve bus addr <;> rfl

theorem Bus.write_cons (r : Region) (bus : List Region) (addr : Word) (v : Byte) :
    Bus.write (r :: bus) addr v =
      if r.contains addr then (if r.writable then r.store addr v else r) :: bus else r :: Bus.write bus addr v := by
  simp only [Bus.write, Bus.resolve_cons]
  by_cases h : r.contains addr = true
  · simp only [h, if_true]; rfl
  · simp only [h]; cases Bus.resolve bus addr <;> rfl

/-- A read by the first region that contains the address, whatever follows it (R41, R44). -/
theorem Bus.read_eq_find (bus : List Region) (addr : Word) :
    Bus.read bus addr =
      match bus.find? (fun r => r.contains addr) with
      | none => 0#8
      | some r => if r.readable then r.load addr else 0#8 := by
  induction bus with
  | nil => rfl
  | cons r bus ih =>
    rw [Bus.read_cons, ih, List.find?_cons]
    cases r.contains addr <;> rfl

/-- A write that no region takes changes nothing (R41, R45). -/
theorem Bus.write_of_unwritable {bus : List Region} {addr : Word}
    (h : ∀ r, bus.find? (fun r => r.contains addr) = some r → r.writable = false) (v : Byte) :
    Bus.write bus addr v = bus := by
  induction bus with
  | nil => rfl
  | cons r bus ih =>
    rw [Bus.write_cons]
    cases hc : r.contains addr with
    | true => simp [h r (by simp [hc])]
    | false => simp [ih fun q hq => h q (by simpa [hc] using hq)]

/-! ## One region -/

@[simp] theorem Region.store_first (r : Region) (addr : Word) (v : Byte) : (r.store addr v).first = r.first := rfl
@[simp] theorem Region.store_last (r : Region) (addr : Word) (v : Byte) : (r.store addr v).last = r.last := rfl
@[simp] theorem Region.store_readable (r : Region) (addr : Word) (v : Byte) :
    (r.store addr v).readable = r.readable := rfl
@[simp] theorem Region.store_writable (r : Region) (addr : Word) (v : Byte) :
    (r.store addr v).writable = r.writable := rfl
@[simp] theorem Region.contains_store (r : Region) (addr other : Word) (v : Byte) :
    (r.store addr v).contains other = r.contains other := rfl

theorem Region.contains_iff (r : Region) (addr : Word) :
    r.contains addr = true ↔ r.first.toNat ≤ addr.toNat ∧ addr.toNat ≤ r.last.toNat := by
  simp [Region.contains]

theorem Region.wf_iff (r : Region) :
    r.wf = true ↔
      r.first.toNat ≤ r.last.toNat ∧ Memory.wf r.storage = true ∧ Memory.within r.size r.storage = true := by
  simp [Region.wf, and_assoc]

/-- An address inside the bounds has a local offset below the size. -/
theorem Region.offset_lt_size {r : Region} {addr : Word} (h : r.contains addr = true) : r.offset addr < r.size := by
  obtain ⟨h1, h2⟩ := (Region.contains_iff r addr).1 h
  simp only [Region.offset, Region.size]
  omega

/-- Inside the bounds, different addresses have different offsets. -/
theorem Region.offset_eq_iff {r : Region} {addr other : Word} (h : r.contains addr = true) (h' : r.contains other = true) :
    r.offset other = r.offset addr ↔ other = addr := by
  obtain ⟨h1, -⟩ := (Region.contains_iff r addr).1 h
  obtain ⟨h2, -⟩ := (Region.contains_iff r other).1 h'
  simp only [Region.offset]
  constructor
  · intro e; exact BitVec.eq_of_toNat_eq (by omega)
  · rintro rfl; rfl

theorem Region.load_store_of_ne {r : Region} {addr other : Word} (h : r.contains addr = true)
    (h' : r.contains other = true) (hne : other ≠ addr) (v : Byte) : (r.store addr v).load other = r.load other :=
  Memory.read_write_of_ne _ (fun e => hne ((Region.offset_eq_iff h h').1 e)) v

/-- Storing and loading inside the bounds. -/
theorem Region.load_store {r : Region} (hwf : r.wf = true) {addr other : Word} (h : r.contains addr = true)
    (h' : r.contains other = true) (v : Byte) :
    (r.store addr v).load other = if other = addr then v else r.load other := by
  obtain ⟨-, hm, -⟩ := (Region.wf_iff r).1 hwf
  have := Memory.read_write hm (r.offset addr) (r.offset other) v
  rw [if_congr (Region.offset_eq_iff h h') rfl rfl] at this
  exact this

theorem Region.wf_store {r : Region} (hwf : r.wf = true) {addr : Word} (h : r.contains addr = true) (v : Byte) :
    (r.store addr v).wf = true := by
  obtain ⟨h1, h2, h3⟩ := (Region.wf_iff r).1 hwf
  exact (Region.wf_iff _).2 ⟨h1, Memory.wf_write h2 _ v, Memory.within_write h3 (Region.offset_lt_size h) v⟩

/-! ## The canonical form -/

@[simp] theorem Bus.wf_nil : Bus.wf [] = true := rfl

@[simp] theorem Bus.wf_cons (r : Region) (bus : List Region) : Bus.wf (r :: bus) = (r.wf && Bus.wf bus) := rfl

theorem Bus.wf_iff (bus : List Region) : Bus.wf bus = true ↔ ∀ r ∈ bus, r.wf = true := by simp [Bus.wf]

/-- A store through the Bus keeps every region admissible and canonical. -/
theorem Bus.wf_write {bus : List Region} (h : Bus.wf bus = true) (addr : Word) (v : Byte) :
    Bus.wf (Bus.write bus addr v) = true := by
  induction bus with
  | nil => rfl
  | cons r bus ih =>
    simp only [Bus.wf_cons, Bool.and_eq_true] at h
    rw [Bus.write_cons]
    split
    · rename_i hc
      split
      · simp [Region.wf_store h.1 hc v, h.2]
      · simp [h]
    · simp [h.1, ih h.2]

theorem State.wf_eq (s : State) : s.wf = Bus.wf s.bus := rfl

theorem State.wf_write {s : State} (h : s.wf = true) (addr : Word) (v : Byte) : (s.write addr v).wf = true :=
  Bus.wf_write h addr v

theorem State.wf_write16 {s : State} (h : s.wf = true) (addr w : Word) : (s.write16 addr w).wf = true :=
  State.wf_write (State.wf_write h _ _) _ _

/-- The storage after reset is canonical: there is none. -/
theorem Bus.wf_reset : Bus.wf State.reset.bus = true := rfl

/-- A region made of a byte block of the right length is admissible. -/
theorem Region.wf_ofBytes {first last : Word} {block : List Byte} (h : first.toNat ≤ last.toNat)
    (hlen : block.length = last.toNat - first.toNat + 1) (rd wr : Bool) :
    (Region.mk first last (Memory.ofBytes block) rd wr).wf = true := by
  refine (Region.wf_iff _).2 ⟨h, Memory.wf_ofBytes block, ?_⟩
  have := Memory.within_ofBytesFrom 0 block
  rwa [Nat.zero_add, hlen] at this

theorem Bus.wf_append (bus bus' : List Region) : Bus.wf (bus ++ bus') = (Bus.wf bus && Bus.wf bus') := by simp [Bus.wf]

/-- Changing a permission bit keeps the canonical form. -/
theorem Bus.wf_modify {bus : List Region} (h : Bus.wf bus = true) (i : Nat) {g : Region → Region}
    (hg : ∀ r : Region, r.wf = true → (g r).wf = true) : Bus.wf (bus.modify i g) = true := by
  rw [Bus.wf_iff] at h ⊢
  intro r hr
  obtain ⟨k, hk, rfl⟩ := List.mem_iff_getElem.1 hr
  rw [List.getElem_modify]
  rw [List.length_modify] at hk
  split
  · exact hg _ (h _ (List.getElem_mem hk))
  · exact h _ (List.getElem_mem hk)

/-! ## What a store through the Bus may change -/

/-- A store leaves the number of regions alone. -/
@[simp] theorem Bus.length_write (bus : List Region) (addr : Word) (v : Byte) : (Bus.write bus addr v).length = bus.length := by
  induction bus with
  | nil => rfl
  | cons r bus ih => rw [Bus.write_cons]; split <;> simp [ih]

/-- A store changes at most the storage of writable regions. -/
theorem Bus.getElem?_write (bus : List Region) (addr : Word) (v : Byte) (k : Nat) :
    (Bus.write bus addr v)[k]? = bus[k]? ∨
      ∃ r, bus[k]? = some r ∧ r.writable = true ∧ r.contains addr = true ∧
        (Bus.write bus addr v)[k]? = some (r.store addr v) := by
  induction bus generalizing k with
  | nil => exact .inl rfl
  | cons r bus ih =>
    rw [Bus.write_cons]
    split
    · rename_i hc
      cases k with
      | zero =>
        split
        · rename_i hw; exact .inr ⟨r, rfl, hw, hc, rfl⟩
        · exact .inl rfl
      | succ k => exact .inl rfl
    · cases k with
      | zero => exact .inl rfl
      | succ k => simpa using ih k

/-- A store changes no address but its own, whatever form the storage has. -/
theorem Bus.read_write_of_ne (bus : List Region) {addr other : Word} (hne : other ≠ addr) (v : Byte) :
    Bus.read (Bus.write bus addr v) other = Bus.read bus other := by
  induction bus with
  | nil => rfl
  | cons r bus ih =>
    rw [Bus.write_cons]
    by_cases hc : r.contains addr = true
    · by_cases hc' : r.contains other = true
      · cases r.writable <;> simp [Bus.read_cons, hc, hc', Region.load_store_of_ne hc hc' hne]
      · cases r.writable <;> simp [Bus.read_cons, hc, hc']
    · simp only [hc, Bool.false_eq_true, if_false, Bus.read_cons, ih]

end Sys2Proof.Machine
end

