-- ==== Sys2Proof/Laws/Decode.lean ====
section
/-! SUPPORT. The decoder's tables: fields of a joined opcode byte, each field code against its inverse, and the row of every family
member. The round trips of the whole decoder split on these. -/

namespace Sys2Proof

/-! ## Bit fields (R71) -/

@[simp] theorem fieldX_joinXYZ (x : BitVec 2) (y z : BitVec 3) : fieldX (joinXYZ x y z) = x := by
  revert x y z; decide +kernel

@[simp] theorem fieldY_joinXYZ (x : BitVec 2) (y z : BitVec 3) : fieldY (joinXYZ x y z) = y := by
  revert x y z; decide +kernel

@[simp] theorem fieldZ_joinXYZ (x : BitVec 2) (y z : BitVec 3) : fieldZ (joinXYZ x y z) = z := by
  revert x y z; decide +kernel

/-- An opcode byte is its three fields. -/
theorem joinXYZ_fields (op : Byte) : joinXYZ (fieldX op) (fieldY op) (fieldZ op) = op := by
  revert op; decide +kernel

@[simp] theorem fieldP_joinPQ (p : BitVec 2) (q : Bool) : fieldP (joinPQ p q) = p := by revert p q; decide

@[simp] theorem fieldQ_joinPQ (p : BitVec 2) (q : Bool) : fieldQ (joinPQ p q) = q := by revert p q; decide

/-! ## Field codes (R78 to R83) -/

@[simp] theorem ofCode_code_reg (r : Reg8) : Operand8.ofCode r.code = .reg r := by cases r <;> rfl
@[simp] theorem ofCode_code_pair (p : Pair) : Pair.ofCode p.code = p := by cases p <;> rfl
@[simp] theorem ofCode_code_stackPair (p : StackPair) : StackPair.ofCode p.code = p := by cases p <;> rfl
@[simp] theorem ofCode_condField (top : Bool) (cc : Cond) : Cond.ofCode (condField top cc) = cc := by
  cases top <;> cases cc <;> rfl
@[simp] theorem ofCode_code_alu (k : Alu) : Alu.ofCode k.code = k := by cases k <;> rfl
@[simp] theorem ofCode_code_rot (k : Rot) : Rot.ofCode k.code = k := by cases k <;> rfl
@[simp] theorem indexOfCode_indexCode (i : Index8) : indexOfCode (indexCode i) = i := rfl
theorem reg_code_ne_atHL (r : Reg8) : r.code ≠ atHLCode := by cases r <;> decide

/-! ## Rows -/

theorem extForm_toInstr (x : ExtForm) : x.toInstr.form = .ext x := by
  cases x with
  | rotReg k r => cases k <;> cases r <;> rfl
  | rotHL k => cases k <;> rfl
  | bitReg i r => revert i; cases r <;> exact fun i => by fin_cases i <;> rfl
  | bitHL i => fin_cases i <;> rfl
  | resReg i r => revert i; cases r <;> exact fun i => by fin_cases i <;> rfl
  | resHL i => fin_cases i <;> rfl
  | setReg i r => revert i; cases r <;> exact fun i => by fin_cases i <;> rfl
  | setHL i => fin_cases i <;> rfl

/-- The row that a family member names is that member's. -/
theorem form_toInstr (f : Form) : f.toInstr.form = f := by
  cases f with
  | ldRegReg x y => cases x <;> cases y <;> rfl
  | aluReg x y => cases x <;> cases y <;> rfl
  | ext x => exact extForm_toInstr x
  | rst i => fin_cases i <;> rfl
  | jpCond x y => cases x <;> rfl
  | jrCond x y => cases x <;> rfl
  | callCond x y => cases x <;> rfl
  | aluImm x y => cases x <;> rfl
  | ldPairImm x y => cases x <;> rfl
  | _ => first | rfl | (rename_i x; cases x <;> rfl) | (rename_i x y; cases x <;> rfl)

/-- Every row is the one its family member names. -/
theorem instr_toInstr (i : Instr) : i.form.toInstr = i := by cases i <;> rfl

end Sys2Proof
end

