-- ==== Sys2Proof/Laws/Effect.lean ====
section
/-! SUPPORT. Every meaning, family by family: `exec` of a row is the family's operation on its fields. Proofs over all instructions
go through `exec_eq_effect` and then split on the few dozen families instead of the 512 rows. -/

namespace Sys2Proof.Laws

open Sys2Proof.Machine

/-- The operation of the field `alu` on the operand's value (R82). -/
def aluEffect : Alu → Byte → State → State
  | .add => addToA
  | .adc => addCarryToA
  | .sub => subFromA
  | .sbc => subCarryFromA
  | .and => andA
  | .xor => xorA
  | .or => orA
  | .cp => compareA

/-- The operation of an extended-table family. -/
def extEffect : ExtForm → State → State
  | .rotReg x y, s => rotateReg x y s
  | .rotHL x, s => rotateMem x s
  | .bitReg x y, s => testBit x (s.reg y) s
  | .bitHL x, s => testBit x (s.read s.hl) s
  | .resReg x y, s => clearBitReg x y s
  | .resHL x, s => clearBitMem x s
  | .setReg x y, s => setBitReg x y s
  | .setHL x, s => setBitMem x s

/-- The operation of a family. For the prefix it is the fetch of `cb` and the extended operation `cb` selects. -/
def effect : Form → State → State
  | .ldRegReg x y, s => copyReg x y s
  | .ldRegImm x n, s => loadReg x n s
  | .ldRegHL x, s => loadReg x (s.read s.hl) s
  | .ldHLReg x, s => storeByte s.hl (s.reg x) s
  | .ldHLImm n, s => storeByte s.hl n s
  | .ldABC, s => loadReg .a (s.read (s.pair .bc)) s
  | .ldADE, s => loadReg .a (s.read (s.pair .de)) s
  | .ldBCA, s => storeByte (s.pair .bc) s.a s
  | .ldDEA, s => storeByte (s.pair .de) s.a s
  | .ldAAbs addr, s => loadReg .a (s.read addr) s
  | .ldAbsA addr, s => storeByte addr s.a s
  | .ldhAC, s => loadReg .a (s.read (highAddr s.c)) s
  | .ldhCA, s => storeByte (highAddr s.c) s.a s
  | .ldhAImm n, s => loadReg .a (s.read (highAddr n)) s
  | .ldhImmA n, s => storeByte (highAddr n) s.a s
  | .ldHLIncA, s => storeAIncHL s
  | .ldAHLInc, s => loadAIncHL s
  | .ldHLDecA, s => storeADecHL s
  | .ldAHLDec, s => loadADecHL s
  | .ldPairImm x w, s => loadPair x w s
  | .ldAbsSP addr, s => storeSP addr s
  | .ldSPHL, s => copyHLToSP s
  | .ldHLSPOff e, s => loadHLSPOffset e s
  | .aluReg x y, s => aluEffect x (s.reg y) s
  | .aluHL x, s => aluEffect x (s.read s.hl) s
  | .aluImm x n, s => aluEffect x n s
  | .incReg x, s => incReg x s
  | .incHL, s => incMem s
  | .decReg x, s => decReg x s
  | .decHL, s => decMem s
  | .daa, s => decimalAdjust s
  | .scf, s => setCarry s
  | .ccf, s => complementCarry s
  | .addHLPair x, s => addToHL (s.pair x) s
  | .incPair x, s => incPair x s
  | .decPair x, s => decPair x s
  | .addSPOff e, s => addSPOffset e s
  | .cpl, s => complementA s
  | .rlca, s => rotateA .rlc s
  | .rrca, s => rotateA .rrc s
  | .rla, s => rotateA .rl s
  | .rra, s => rotateA .rr s
  | .jp addr, s => jump addr s
  | .jpCond x addr, s => jumpIf x addr s
  | .jpHL, s => jump s.hl s
  | .jr e, s => jumpRel e s
  | .jrCond x e, s => jumpRelIf x e s
  | .call addr, s => call addr s
  | .callCond x addr, s => callIf x addr s
  | .ret, s => ret s
  | .retCond x, s => retIf x s
  | .reti, s => returnFromInterrupt s
  | .rst x, s => restart x s
  | .push x, s => pushPair x s
  | .pop x, s => popPair x s
  | .nop, s => noOperation s
  | .halt, s => enterHalt s
  | .stop n, s => enterStop n s
  | .ei, s => armInterrupts s
  | .di, s => disableInterrupts s
  | .illegal x, s => raiseIllegalOpcode x s
  | .prefixCB, s => extEffect (decodeExt (fetch s).1) (fetch s).2
  | .ext x, s => extEffect x s

theorem runExtended_eq_extEffect (x : ExtForm) (s : State) : runExtended x s = .next (extEffect x s) := by
  cases x with
  | rotReg k r => cases k <;> cases r <;> rfl
  | rotHL k => cases k <;> rfl
  | bitReg i r => revert i; cases r <;> exact fun i => by fin_cases i <;> rfl
  | bitHL i => fin_cases i <;> rfl
  | resReg i r => revert i; cases r <;> exact fun i => by fin_cases i <;> rfl
  | resHL i => fin_cases i <;> rfl
  | setReg i r => revert i; cases r <;> exact fun i => by fin_cases i <;> rfl
  | setHL i => fin_cases i <;> rfl

/-- Every instruction completes, and what it does is its family's operation. -/
theorem exec_eq_effect (i : Instr) (s : State) : exec i s = .next (effect i.form s) := by
  cases i <;> first | rfl | exact runExtended_eq_extEffect _ _

end Sys2Proof.Laws
end

