-- ==== Sys2Proof/Laws/Ops.lean ====
section
/-! SUPPORT. One lemma per shared operation that says everything it does: the fetch, the stack, the taking of an interrupt and the
return from one. Claims cite these and unfold no operation. -/

namespace Sys2Proof.Machine

theorem word_sub_one_sub_one (w : Word) : w - 1 - 1 = w - 2 := by bv_omega

theorem word_add_one_add_one (w : Word) : w + 1 + 1 = w + 2 := by bv_omega

/-! ## Fetch -/

@[simp] theorem fetch_fst (s : State) : (fetch s).1 = s.read s.pc := rfl
@[simp] theorem fetch_snd (s : State) : (fetch s).2 = { s with pc := s.pc + 1 } := rfl

/-- The pc is no part of what a read sees. -/
@[simp] theorem State.read_with_pc (s : State) (pc addr : Word) : State.read { s with pc := pc } addr = s.read addr := rfl

/-- What remains of an instruction after its first byte, from the two bytes at PC (R72): the instruction and how far PC moves. -/
def restOf (op b1 b2 : Byte) : Instr × Nat :=
  if op = Config.prefixByte then ((decodeExt b1).toInstr, 1)
  else
    match operandBytes op with
    | 0 => ((decodeBase op 0 0).toInstr, 0)
    | 1 => ((decodeBase op b1 0).toInstr, 1)
    | _ => ((decodeBase op b1 b2).toInstr, 2)

/-- The fetch of an instruction's remaining bytes moves PC past them and changes nothing else. -/
theorem fetchRest_eq (op : Byte) (s : State) :
    fetchRest op s =
      ((restOf op (s.read s.pc) (s.read (s.pc + 1))).1,
        { s with pc := s.pc + BitVec.ofNat 16 (restOf op (s.read s.pc) (s.read (s.pc + 1))).2 }) := by
  have h0 : s.pc + 0#16 = s.pc := BitVec.add_zero _
  simp only [fetchRest, restOf]
  split
  · rfl
  · rcases operandBytes op with _ | _ | n
    · simp only [h0]
    · rfl
    · exact congrArg (fun w => ((decodeBase op (s.read s.pc) (s.read (s.pc + 1))).toInstr, { s with pc := w }))
        (word_add_one_add_one s.pc)

/-! ## Stack -/

/-- A push of a byte: SP moves whether or not the write lands (R250). -/
theorem push_eq (v : Byte) (s : State) : push v s = { s.write (s.sp - 1) v with sp := s.sp - 1 } := rfl

/-- A pop of a byte (R251). -/
theorem pop_eq (s : State) : pop s = (s.read s.sp, { s with sp := s.sp + 1 }) := rfl

/-- A 16-bit push is two stores below SP, the high byte's first (R252). -/
theorem push16_eq (w : Word) (s : State) :
    push16 w s = { (s.write (s.sp - 1) (hiByte w)).write (s.sp - 2) (loByte w) with sp := s.sp - 2 } := by
  simp only [push16, push, State.write, word_sub_one_sub_one]

/-- A 16-bit pop takes the low byte at SP and the high byte after it (R253). -/
theorem pop16_eq (s : State) : pop16 s = (wordOf (s.read (s.sp + 1)) (s.read s.sp), { s with sp := s.sp + 2 }) := by
  simp only [pop16, pop_eq, word_add_one_add_one]; rfl

/-- A 16-bit push changes SP and the Bus alone. -/
theorem push16_frame (w : Word) (s : State) :
    push16 w s = { s with sp := s.sp - 2, bus := (push16 w s).bus } := by rw [push16_eq]; rfl

theorem wf_push16 {s : State} (h : s.wf = true) (w : Word) : (push16 w s).wf = true := by
  rw [push16_eq]; exact State.wf_write (State.wf_write h _ _) _ _

/-! ## Exceptions and interrupts -/

/-- Taking IllegalOpcode is mode Locked and nothing else (R280). -/
theorem raiseIllegalOpcode_eq (k : IllegalCode) (s : State) : raiseIllegalOpcode k s = { s with mode := .locked } := rfl

/-- Trap entry (R286). -/
theorem enterInterrupt_eq (v : Word) (s : State) :
    enterInterrupt v s =
      { (s.write (s.sp - 1) (hiByte s.pc)).write (s.sp - 2) (loByte s.pc) with
        sp := s.sp - 2, ime := false, eiPending := false, mode := .running, pc := v } := by
  rw [enterInterrupt, push16_eq]; rfl

/-- Trap return (R239, R289). -/
theorem returnFromInterrupt_eq (s : State) :
    returnFromInterrupt s =
      { s with pc := wordOf (s.read (s.sp + 1)) (s.read s.sp), sp := s.sp + 2, ime := true, eiPending := false } := by
  simp only [returnFromInterrupt, pop16_eq]

end Sys2Proof.Machine
end

