-- ==== Sys2Proof/Laws/Step.lean ====
section
/-! SUPPORT. What one step can do, said once: nothing when the Engine does not run; else the family's operation on the fetched state,
and the delayed enable. Invariants follow from `step_cases` and a lemma about `effect`. -/

namespace Sys2Proof.Machine

open Sys2Proof.Laws

/-! ## A row by its family -/

theorem exec_toInstr (f : Form) (s : State) : exec f.toInstr s = .next (effect f s) := by
  rw [exec_eq_effect, form_toInstr]

theorem cycles_toInstr (f : Form) (s : State) : cycles f.toInstr s = formCycles s f := by rw [cycles, form_toInstr]

theorem encode_toInstr (f : Form) : encode f.toInstr = f.encode := by rw [encode, form_toInstr]

/-! ## One step -/

theorem step_idle {s : State} (h : s.mode ≠ .running) : step s = .next s := by
  unfold step stepOnce
  cases hm : s.mode <;> simp_all

/-- A step that is not running does nothing (R303). -/
theorem stepCycles_idle {s : State} (h : s.mode ≠ .running) : stepCycles s = 4 := by
  unfold stepCycles
  cases hm : s.mode <;> simp_all [Config.idleCycles]

/-- The instruction at PC and its length less one. -/
def State.fetched (s : State) : Instr × Nat :=
  restOf (s.read s.pc) (s.read (s.pc + 1)) (s.read (s.pc + 1 + 1))

/-- The state an instruction's fetch leaves, on which it acts. -/
def State.afterFetch (s : State) : State :=
  { s with pc := s.pc + 1 + BitVec.ofNat 16 s.fetched.2, eiPending := false }

/-- A running step is the fetched instruction's operation, then the delayed enable. -/
theorem step_running {s : State} (h : s.mode = .running) :
    step s = .next (delayedEnable s.eiPending (s.read s.pc) (effect s.fetched.1.form s.afterFetch)) := by
  have hs : step s = runOne s := by simp only [step, stepOnce, h]
  rw [hs, runOne, execute, fetchRest_eq, exec_eq_effect]
  rfl

/-- An instruction's cost depends on the flags and, for the prefix, on the byte at PC. -/
theorem formCycles_congr {s t : State} (hf : s.flags = t.flags) (hb : s.read s.pc = t.read t.pc) (f : Form) :
    formCycles s f = formCycles t f := by
  cases f <;> simp only [formCycles, hf, fetch_fst, hb]

/-- The cost of a running step is the fetched instruction's. -/
theorem stepCycles_running {s : State} (h : s.mode = .running) : stepCycles s = cycles s.fetched.1 s.afterFetch := by
  have hs : stepCycles s = cycles (fetchRest (fetch s).1 (fetch s).2).1 (fetchRest (fetch s).1 (fetch s).2).2 := by
    simp only [stepCycles, h, executeCycles]
  rw [hs, fetchRest_eq]
  exact formCycles_congr rfl rfl _

/-- Every step's next state: the state itself, or a running step's. -/
theorem step_cases {s t : State} (h : step s = .next t) :
    (s.mode ≠ .running ∧ t = s) ∨
      (s.mode = .running ∧
        t = delayedEnable s.eiPending (s.read s.pc) (effect s.fetched.1.form s.afterFetch)) := by
  by_cases hm : s.mode = .running
  · rw [step_running hm] at h
    injection h with h
    exact .inr ⟨hm, h.symm⟩
  · rw [step_idle hm] at h
    injection h with h
    exact .inl ⟨hm, h.symm⟩

/-- The delayed enable sets IME or does nothing (R303). -/
theorem delayedEnable_eq (pending : Bool) (op : Byte) (s : State) :
    delayedEnable pending op s = { s with ime := s.ime || (pending && decide (op ≠ 0xF3#8)) } := by
  change (if (pending && decide (op ≠ 0xF3#8)) = true then _ else _) = _
  cases (pending && decide (op ≠ 0xF3#8)) <;> simp

end Sys2Proof.Machine
end

