-- ==== Sys2Proof/Laws/Run.lean ====
section
/-! SUPPORT. Runs of several steps. -/

namespace Sys2Proof.Laws

/-- The first of `n + 1` steps, on any core. -/
theorem run_succ_of (M : Host.Core) {s t : M.State} (h : M.step s = .next t) (n : Nat) : M.run (n + 1) s = M.run n t := by
  rw [Host.Core.run, h]

/-- A state that a step leaves as it is, so does every run. -/
theorem run_of_fixed {s : Machine.State} (h : Machine.step s = .next s) (n : Nat) : Host.Core.run core n s = .next s := by
  induction n with
  | zero => rfl
  | succ n ih => exact (run_succ_of core h n).trans ih

end Sys2Proof.Laws
end

