-- ==== Sys2Proof/Tests/Slice0.lean ====
section
/-! SUPPORT. Tests and witnesses. Expected values come from the spec: the words from opcode_table.json and the bit fields of
30_encoding.md, the results from the vectors S, V, B, E of 95_test_vectors.md and the `Example:` lines of the rules. The witnesses
show, for every statement with hypotheses, a state and operands that meet them, each clause at a boundary of its range. -/

namespace Sys2Proof.Tests

open Sys2Proof.Machine Sys2Proof.Claims

set_option maxRecDepth 4000

/-! ## Helpers -/

/-- The regions of the test platform TP (95_test_vectors.md), with `code` at 0x0100 in the read-only region 0. -/
def tpBus (code : List Byte) : List Region :=
  [⟨0x0000, 0x7FFF, Memory.ofBytesFrom 0x100 code, true, false⟩, ⟨0xC000, 0xDFFF, [], true, true⟩,
    ⟨0xFF80, 0xFFFE, [], true, true⟩]

/-- The reset Engine on TP, PC at the code. -/
def tp (code : List Byte) : State := { State.reset with pc := 0x0100, bus := tpBus code }

/-- The same with one byte of RAM set. -/
def tpRam (code : List Byte) (addr : Word) (v : Byte) : State := (tp code).write addr v

/-- What one step leaves, seen through `g`. -/
def after {α : Type} (s : State) (g : State → α) : Option α := (nextState? (step s)).map g

/-- Whether every row's bytes decode to its instruction, with nothing left. -/
def decodesTo (rows : List (List Byte × Instr)) : Bool :=
  rows.all fun row => match decode row.1 with
    | .ok (i, rest) => decide (i = row.2) && rest.isEmpty
    | .error _ => false

/-! ## WellFormed: the one ill-formed term, refused -/

theorem test_prefix_alone_is_no_whole_instruction : Instr.wellFormed .prefix_CB = false := by decide

theorem test_extended_row_is_whole : Instr.wellFormed .rlc_B = true := by decide

/-! ## Decoding: words written out bit by bit from 30_encoding.md -/

theorem test_bits_ld_r_r : decode [0b01111000] = .ok (.ld_A_B, []) := rfl
theorem test_bits_ld_r_d8 : decode [0b00111110, 0x05] = .ok (.ld_A_d8 0x05, []) := rfl
theorem test_bits_ld_r_hl : decode [0b01100110] = .ok (.ld_H_atHL, []) := rfl
theorem test_bits_ld_hl_r : decode [0b01110101] = .ok (.ld_atHL_L, []) := rfl
theorem test_bits_ld_hl_d8 : decode [0b00110110, 0xFF] = .ok (.ld_atHL_d8 0xFF, []) := rfl
theorem test_bits_ldh : decode [0b11100000, 0x85] = .ok (.ldh_atA8_A 0x85, []) := rfl
theorem test_bits_ld_hl_step : decode [0b00111010] = .ok (.ld_A_atHLdec, []) := rfl
theorem test_bits_ld_rp_d16 : decode [0b00010001, 0x34, 0x12] = .ok (.ld_DE_d16 0x1234, []) := rfl
theorem test_bits_ld_a16_sp : decode [0b00001000, 0x00, 0xC1] = .ok (.ld_atA16_SP 0xC100, []) := rfl
theorem test_bits_alu_r : decode [0b10011011] = .ok (.sbc_A_E, []) := rfl
theorem test_bits_alu_hl : decode [0b10101110] = .ok (.xor_A_atHL, []) := rfl
theorem test_bits_alu_d8 : decode [0b11111110, 0x3C] = .ok (.cp_A_d8 0x3C, []) := rfl
theorem test_bits_inc_r : decode [0b00101100] = .ok (.inc_L, []) := rfl
theorem test_bits_dec_hl : decode [0b00110101] = .ok (.dec_atHL, []) := rfl
theorem test_bits_daa : decode [0b00100111] = .ok (.daa, []) := rfl
theorem test_bits_add_hl_rp : decode [0b00111001] = .ok (.add_HL_SP, []) := rfl
theorem test_bits_dec_rp : decode [0b00011011] = .ok (.dec_DE, []) := rfl
theorem test_bits_rra : decode [0b00011111] = .ok (.rra, []) := rfl
theorem test_bits_rot_r : decode [0b11001011, 0b00101010] = .ok (.sra_D, []) := rfl
theorem test_bits_rot_hl : decode [0b11001011, 0b00110110] = .ok (.swap_atHL, []) := rfl
theorem test_bits_bit_r : decode [0b11001011, 0b01111100] = .ok (.bit_7_H, []) := rfl
theorem test_bits_res_hl : decode [0b11001011, 0b10000110] = .ok (.res_0_atHL, []) := rfl
theorem test_bits_set_r : decode [0b11001011, 0b11001011] = .ok (.set_1_E, []) := rfl
theorem test_bits_jp_cc : decode [0b11011010, 0x34, 0x12] = .ok (.jp_C_a16 0x1234, []) := rfl
theorem test_bits_jr_cc : decode [0b00110000, 0x03] = .ok (.jr_NC_e8 0x03, []) := rfl
theorem test_bits_call_cc : decode [0b11001100, 0x00, 0x20] = .ok (.call_Z_a16 0x2000, []) := rfl
theorem test_bits_ret_cc : decode [0b11000000] = .ok (.ret_NZ, []) := rfl
theorem test_bits_rst : decode [0b11111111] = .ok (.rst_38, []) := rfl
theorem test_bits_push : decode [0b11110101] = .ok (.push_AF, []) := rfl
theorem test_bits_pop : decode [0b11010001] = .ok (.pop_DE, []) := rfl
theorem test_bits_halt : decode [0b01110110] = .ok (.halt, []) := rfl
theorem test_bits_stop : decode [0b00010000, 0x3C] = .ok (.stop 0x3C, []) := rfl
theorem test_bits_illegal : decode [0b11011101] = .ok (.illegal_DD, []) := rfl

theorem test_bits_prefix : decode [0b11001011] = .ok (.prefix_CB, []) := rfl

theorem test_missing_operand : decode [0xC3, 0x00] = .error (.missingOperand 0xC3) := rfl

theorem test_rest_is_given_back : decode [0x3E, 0x05, 0x76, 0x00] = .ok (.ld_A_d8 0x05, [0x76, 0x00]) := rfl

/-! ## Decoding: every row of opcode_table.json, by its own word (operand bytes 0x05, or 0x34 0x12) -/

theorem test_words_base_0 : decodesTo
    [([0x00], .nop), ([0x01, 0x34, 0x12], .ld_BC_d16 0x1234), ([0x02], .ld_atBC_A), ([0x03], .inc_BC),
    ([0x04], .inc_B), ([0x05], .dec_B), ([0x06, 0x05], .ld_B_d8 0x05), ([0x07], .rlca),
    ([0x08, 0x34, 0x12], .ld_atA16_SP 0x1234), ([0x09], .add_HL_BC), ([0x0A], .ld_A_atBC), ([0x0B], .dec_BC),
    ([0x0C], .inc_C), ([0x0D], .dec_C), ([0x0E, 0x05], .ld_C_d8 0x05), ([0x0F], .rrca), ([0x10, 0x05], .stop 0x05),
    ([0x11, 0x34, 0x12], .ld_DE_d16 0x1234), ([0x12], .ld_atDE_A), ([0x13], .inc_DE), ([0x14], .inc_D),
    ([0x15], .dec_D), ([0x16, 0x05], .ld_D_d8 0x05), ([0x17], .rla), ([0x18, 0x05], .jr_e8 0x05),
    ([0x19], .add_HL_DE), ([0x1A], .ld_A_atDE), ([0x1B], .dec_DE), ([0x1C], .inc_E), ([0x1D], .dec_E),
    ([0x1E, 0x05], .ld_E_d8 0x05), ([0x1F], .rra)] = true := by decide +kernel

theorem test_words_base_1 : decodesTo
    [([0x20, 0x05], .jr_NZ_e8 0x05), ([0x21, 0x34, 0x12], .ld_HL_d16 0x1234), ([0x22], .ld_atHLinc_A),
    ([0x23], .inc_HL), ([0x24], .inc_H), ([0x25], .dec_H), ([0x26, 0x05], .ld_H_d8 0x05), ([0x27], .daa),
    ([0x28, 0x05], .jr_Z_e8 0x05), ([0x29], .add_HL_HL), ([0x2A], .ld_A_atHLinc), ([0x2B], .dec_HL),
    ([0x2C], .inc_L), ([0x2D], .dec_L), ([0x2E, 0x05], .ld_L_d8 0x05), ([0x2F], .cpl),
    ([0x30, 0x05], .jr_NC_e8 0x05), ([0x31, 0x34, 0x12], .ld_SP_d16 0x1234), ([0x32], .ld_atHLdec_A),
    ([0x33], .inc_SP), ([0x34], .inc_atHL), ([0x35], .dec_atHL), ([0x36, 0x05], .ld_atHL_d8 0x05), ([0x37], .scf),
    ([0x38, 0x05], .jr_C_e8 0x05), ([0x39], .add_HL_SP), ([0x3A], .ld_A_atHLdec), ([0x3B], .dec_SP),
    ([0x3C], .inc_A), ([0x3D], .dec_A), ([0x3E, 0x05], .ld_A_d8 0x05), ([0x3F], .ccf)] = true := by decide +kernel

theorem test_words_base_2 : decodesTo
    [([0x40], .ld_B_B), ([0x41], .ld_B_C), ([0x42], .ld_B_D), ([0x43], .ld_B_E), ([0x44], .ld_B_H),
    ([0x45], .ld_B_L), ([0x46], .ld_B_atHL), ([0x47], .ld_B_A), ([0x48], .ld_C_B), ([0x49], .ld_C_C),
    ([0x4A], .ld_C_D), ([0x4B], .ld_C_E), ([0x4C], .ld_C_H), ([0x4D], .ld_C_L), ([0x4E], .ld_C_atHL),
    ([0x4F], .ld_C_A), ([0x50], .ld_D_B), ([0x51], .ld_D_C), ([0x52], .ld_D_D), ([0x53], .ld_D_E),
    ([0x54], .ld_D_H), ([0x55], .ld_D_L), ([0x56], .ld_D_atHL), ([0x57], .ld_D_A), ([0x58], .ld_E_B),
    ([0x59], .ld_E_C), ([0x5A], .ld_E_D), ([0x5B], .ld_E_E), ([0x5C], .ld_E_H), ([0x5D], .ld_E_L),
    ([0x5E], .ld_E_atHL), ([0x5F], .ld_E_A)] = true := by decide +kernel

theorem test_words_base_3 : decodesTo
    [([0x60], .ld_H_B), ([0x61], .ld_H_C), ([0x62], .ld_H_D), ([0x63], .ld_H_E), ([0x64], .ld_H_H),
    ([0x65], .ld_H_L), ([0x66], .ld_H_atHL), ([0x67], .ld_H_A), ([0x68], .ld_L_B), ([0x69], .ld_L_C),
    ([0x6A], .ld_L_D), ([0x6B], .ld_L_E), ([0x6C], .ld_L_H), ([0x6D], .ld_L_L), ([0x6E], .ld_L_atHL),
    ([0x6F], .ld_L_A), ([0x70], .ld_atHL_B), ([0x71], .ld_atHL_C), ([0x72], .ld_atHL_D), ([0x73], .ld_atHL_E),
    ([0x74], .ld_atHL_H), ([0x75], .ld_atHL_L), ([0x76], .halt), ([0x77], .ld_atHL_A), ([0x78], .ld_A_B),
    ([0x79], .ld_A_C), ([0x7A], .ld_A_D), ([0x7B], .ld_A_E), ([0x7C], .ld_A_H), ([0x7D], .ld_A_L),
    ([0x7E], .ld_A_atHL), ([0x7F], .ld_A_A)] = true := by decide +kernel

theorem test_words_base_4 : decodesTo
    [([0x80], .add_A_B), ([0x81], .add_A_C), ([0x82], .add_A_D), ([0x83], .add_A_E), ([0x84], .add_A_H),
    ([0x85], .add_A_L), ([0x86], .add_A_atHL), ([0x87], .add_A_A), ([0x88], .adc_A_B), ([0x89], .adc_A_C),
    ([0x8A], .adc_A_D), ([0x8B], .adc_A_E), ([0x8C], .adc_A_H), ([0x8D], .adc_A_L), ([0x8E], .adc_A_atHL),
    ([0x8F], .adc_A_A), ([0x90], .sub_A_B), ([0x91], .sub_A_C), ([0x92], .sub_A_D), ([0x93], .sub_A_E),
    ([0x94], .sub_A_H), ([0x95], .sub_A_L), ([0x96], .sub_A_atHL), ([0x97], .sub_A_A), ([0x98], .sbc_A_B),
    ([0x99], .sbc_A_C), ([0x9A], .sbc_A_D), ([0x9B], .sbc_A_E), ([0x9C], .sbc_A_H), ([0x9D], .sbc_A_L),
    ([0x9E], .sbc_A_atHL), ([0x9F], .sbc_A_A)] = true := by decide +kernel

theorem test_words_base_5 : decodesTo
    [([0xA0], .and_A_B), ([0xA1], .and_A_C), ([0xA2], .and_A_D), ([0xA3], .and_A_E), ([0xA4], .and_A_H),
    ([0xA5], .and_A_L), ([0xA6], .and_A_atHL), ([0xA7], .and_A_A), ([0xA8], .xor_A_B), ([0xA9], .xor_A_C),
    ([0xAA], .xor_A_D), ([0xAB], .xor_A_E), ([0xAC], .xor_A_H), ([0xAD], .xor_A_L), ([0xAE], .xor_A_atHL),
    ([0xAF], .xor_A_A), ([0xB0], .or_A_B), ([0xB1], .or_A_C), ([0xB2], .or_A_D), ([0xB3], .or_A_E),
    ([0xB4], .or_A_H), ([0xB5], .or_A_L), ([0xB6], .or_A_atHL), ([0xB7], .or_A_A), ([0xB8], .cp_A_B),
    ([0xB9], .cp_A_C), ([0xBA], .cp_A_D), ([0xBB], .cp_A_E), ([0xBC], .cp_A_H), ([0xBD], .cp_A_L),
    ([0xBE], .cp_A_atHL), ([0xBF], .cp_A_A)] = true := by decide +kernel

theorem test_words_base_6 : decodesTo
    [([0xC0], .ret_NZ), ([0xC1], .pop_BC), ([0xC2, 0x34, 0x12], .jp_NZ_a16 0x1234),
    ([0xC3, 0x34, 0x12], .jp_a16 0x1234), ([0xC4, 0x34, 0x12], .call_NZ_a16 0x1234), ([0xC5], .push_BC),
    ([0xC6, 0x05], .add_A_d8 0x05), ([0xC7], .rst_00), ([0xC8], .ret_Z), ([0xC9], .ret),
    ([0xCA, 0x34, 0x12], .jp_Z_a16 0x1234), ([0xCC, 0x34, 0x12], .call_Z_a16 0x1234),
    ([0xCD, 0x34, 0x12], .call_a16 0x1234), ([0xCE, 0x05], .adc_A_d8 0x05), ([0xCF], .rst_08), ([0xD0], .ret_NC),
    ([0xD1], .pop_DE), ([0xD2, 0x34, 0x12], .jp_NC_a16 0x1234), ([0xD3], .illegal_D3),
    ([0xD4, 0x34, 0x12], .call_NC_a16 0x1234), ([0xD5], .push_DE), ([0xD6, 0x05], .sub_A_d8 0x05),
    ([0xD7], .rst_10), ([0xD8], .ret_C), ([0xD9], .reti), ([0xDA, 0x34, 0x12], .jp_C_a16 0x1234),
    ([0xDB], .illegal_DB), ([0xDC, 0x34, 0x12], .call_C_a16 0x1234), ([0xDD], .illegal_DD),
    ([0xDE, 0x05], .sbc_A_d8 0x05), ([0xDF], .rst_18), ([0xE0, 0x05], .ldh_atA8_A 0x05)] = true := by decide +kernel

theorem test_words_base_7 : decodesTo
    [([0xE1], .pop_HL), ([0xE2], .ldh_atC_A), ([0xE3], .illegal_E3), ([0xE4], .illegal_E4), ([0xE5], .push_HL),
    ([0xE6, 0x05], .and_A_d8 0x05), ([0xE7], .rst_20), ([0xE8, 0x05], .add_SP_e8 0x05), ([0xE9], .jp_HL),
    ([0xEA, 0x34, 0x12], .ld_atA16_A 0x1234), ([0xEB], .illegal_EB), ([0xEC], .illegal_EC), ([0xED], .illegal_ED),
    ([0xEE, 0x05], .xor_A_d8 0x05), ([0xEF], .rst_28), ([0xF0, 0x05], .ldh_A_atA8 0x05), ([0xF1], .pop_AF),
    ([0xF2], .ldh_A_atC), ([0xF3], .di), ([0xF4], .illegal_F4), ([0xF5], .push_AF), ([0xF6, 0x05], .or_A_d8 0x05),
    ([0xF7], .rst_30), ([0xF8, 0x05], .ld_HL_SPe8 0x05), ([0xF9], .ld_SP_HL),
    ([0xFA, 0x34, 0x12], .ld_A_atA16 0x1234), ([0xFB], .ei), ([0xFC], .illegal_FC), ([0xFD], .illegal_FD),
    ([0xFE, 0x05], .cp_A_d8 0x05), ([0xFF], .rst_38)] = true := by decide +kernel

theorem test_words_extended_0 : decodesTo
    [([0xCB, 0x00], .rlc_B), ([0xCB, 0x01], .rlc_C), ([0xCB, 0x02], .rlc_D), ([0xCB, 0x03], .rlc_E),
    ([0xCB, 0x04], .rlc_H), ([0xCB, 0x05], .rlc_L), ([0xCB, 0x06], .rlc_atHL), ([0xCB, 0x07], .rlc_A),
    ([0xCB, 0x08], .rrc_B), ([0xCB, 0x09], .rrc_C), ([0xCB, 0x0A], .rrc_D), ([0xCB, 0x0B], .rrc_E),
    ([0xCB, 0x0C], .rrc_H), ([0xCB, 0x0D], .rrc_L), ([0xCB, 0x0E], .rrc_atHL), ([0xCB, 0x0F], .rrc_A),
    ([0xCB, 0x10], .rl_B), ([0xCB, 0x11], .rl_C), ([0xCB, 0x12], .rl_D), ([0xCB, 0x13], .rl_E),
    ([0xCB, 0x14], .rl_H), ([0xCB, 0x15], .rl_L), ([0xCB, 0x16], .rl_atHL), ([0xCB, 0x17], .rl_A),
    ([0xCB, 0x18], .rr_B), ([0xCB, 0x19], .rr_C), ([0xCB, 0x1A], .rr_D), ([0xCB, 0x1B], .rr_E),
    ([0xCB, 0x1C], .rr_H), ([0xCB, 0x1D], .rr_L), ([0xCB, 0x1E], .rr_atHL), ([0xCB, 0x1F], .rr_A)] = true := by decide +kernel

theorem test_words_extended_1 : decodesTo
    [([0xCB, 0x20], .sla_B), ([0xCB, 0x21], .sla_C), ([0xCB, 0x22], .sla_D), ([0xCB, 0x23], .sla_E),
    ([0xCB, 0x24], .sla_H), ([0xCB, 0x25], .sla_L), ([0xCB, 0x26], .sla_atHL), ([0xCB, 0x27], .sla_A),
    ([0xCB, 0x28], .sra_B), ([0xCB, 0x29], .sra_C), ([0xCB, 0x2A], .sra_D), ([0xCB, 0x2B], .sra_E),
    ([0xCB, 0x2C], .sra_H), ([0xCB, 0x2D], .sra_L), ([0xCB, 0x2E], .sra_atHL), ([0xCB, 0x2F], .sra_A),
    ([0xCB, 0x30], .swap_B), ([0xCB, 0x31], .swap_C), ([0xCB, 0x32], .swap_D), ([0xCB, 0x33], .swap_E),
    ([0xCB, 0x34], .swap_H), ([0xCB, 0x35], .swap_L), ([0xCB, 0x36], .swap_atHL), ([0xCB, 0x37], .swap_A),
    ([0xCB, 0x38], .srl_B), ([0xCB, 0x39], .srl_C), ([0xCB, 0x3A], .srl_D), ([0xCB, 0x3B], .srl_E),
    ([0xCB, 0x3C], .srl_H), ([0xCB, 0x3D], .srl_L), ([0xCB, 0x3E], .srl_atHL), ([0xCB, 0x3F], .srl_A)] = true := by decide +kernel

theorem test_words_extended_2 : decodesTo
    [([0xCB, 0x40], .bit_0_B), ([0xCB, 0x41], .bit_0_C), ([0xCB, 0x42], .bit_0_D), ([0xCB, 0x43], .bit_0_E),
    ([0xCB, 0x44], .bit_0_H), ([0xCB, 0x45], .bit_0_L), ([0xCB, 0x46], .bit_0_atHL), ([0xCB, 0x47], .bit_0_A),
    ([0xCB, 0x48], .bit_1_B), ([0xCB, 0x49], .bit_1_C), ([0xCB, 0x4A], .bit_1_D), ([0xCB, 0x4B], .bit_1_E),
    ([0xCB, 0x4C], .bit_1_H), ([0xCB, 0x4D], .bit_1_L), ([0xCB, 0x4E], .bit_1_atHL), ([0xCB, 0x4F], .bit_1_A),
    ([0xCB, 0x50], .bit_2_B), ([0xCB, 0x51], .bit_2_C), ([0xCB, 0x52], .bit_2_D), ([0xCB, 0x53], .bit_2_E),
    ([0xCB, 0x54], .bit_2_H), ([0xCB, 0x55], .bit_2_L), ([0xCB, 0x56], .bit_2_atHL), ([0xCB, 0x57], .bit_2_A),
    ([0xCB, 0x58], .bit_3_B), ([0xCB, 0x59], .bit_3_C), ([0xCB, 0x5A], .bit_3_D), ([0xCB, 0x5B], .bit_3_E),
    ([0xCB, 0x5C], .bit_3_H), ([0xCB, 0x5D], .bit_3_L), ([0xCB, 0x5E], .bit_3_atHL), ([0xCB, 0x5F], .bit_3_A)] = true := by decide +kernel

theorem test_words_extended_3 : decodesTo
    [([0xCB, 0x60], .bit_4_B), ([0xCB, 0x61], .bit_4_C), ([0xCB, 0x62], .bit_4_D), ([0xCB, 0x63], .bit_4_E),
    ([0xCB, 0x64], .bit_4_H), ([0xCB, 0x65], .bit_4_L), ([0xCB, 0x66], .bit_4_atHL), ([0xCB, 0x67], .bit_4_A),
    ([0xCB, 0x68], .bit_5_B), ([0xCB, 0x69], .bit_5_C), ([0xCB, 0x6A], .bit_5_D), ([0xCB, 0x6B], .bit_5_E),
    ([0xCB, 0x6C], .bit_5_H), ([0xCB, 0x6D], .bit_5_L), ([0xCB, 0x6E], .bit_5_atHL), ([0xCB, 0x6F], .bit_5_A),
    ([0xCB, 0x70], .bit_6_B), ([0xCB, 0x71], .bit_6_C), ([0xCB, 0x72], .bit_6_D), ([0xCB, 0x73], .bit_6_E),
    ([0xCB, 0x74], .bit_6_H), ([0xCB, 0x75], .bit_6_L), ([0xCB, 0x76], .bit_6_atHL), ([0xCB, 0x77], .bit_6_A),
    ([0xCB, 0x78], .bit_7_B), ([0xCB, 0x79], .bit_7_C), ([0xCB, 0x7A], .bit_7_D), ([0xCB, 0x7B], .bit_7_E),
    ([0xCB, 0x7C], .bit_7_H), ([0xCB, 0x7D], .bit_7_L), ([0xCB, 0x7E], .bit_7_atHL), ([0xCB, 0x7F], .bit_7_A)] = true := by decide +kernel

theorem test_words_extended_4 : decodesTo
    [([0xCB, 0x80], .res_0_B), ([0xCB, 0x81], .res_0_C), ([0xCB, 0x82], .res_0_D), ([0xCB, 0x83], .res_0_E),
    ([0xCB, 0x84], .res_0_H), ([0xCB, 0x85], .res_0_L), ([0xCB, 0x86], .res_0_atHL), ([0xCB, 0x87], .res_0_A),
    ([0xCB, 0x88], .res_1_B), ([0xCB, 0x89], .res_1_C), ([0xCB, 0x8A], .res_1_D), ([0xCB, 0x8B], .res_1_E),
    ([0xCB, 0x8C], .res_1_H), ([0xCB, 0x8D], .res_1_L), ([0xCB, 0x8E], .res_1_atHL), ([0xCB, 0x8F], .res_1_A),
    ([0xCB, 0x90], .res_2_B), ([0xCB, 0x91], .res_2_C), ([0xCB, 0x92], .res_2_D), ([0xCB, 0x93], .res_2_E),
    ([0xCB, 0x94], .res_2_H), ([0xCB, 0x95], .res_2_L), ([0xCB, 0x96], .res_2_atHL), ([0xCB, 0x97], .res_2_A),
    ([0xCB, 0x98], .res_3_B), ([0xCB, 0x99], .res_3_C), ([0xCB, 0x9A], .res_3_D), ([0xCB, 0x9B], .res_3_E),
    ([0xCB, 0x9C], .res_3_H), ([0xCB, 0x9D], .res_3_L), ([0xCB, 0x9E], .res_3_atHL), ([0xCB, 0x9F], .res_3_A)] = true := by decide +kernel

theorem test_words_extended_5 : decodesTo
    [([0xCB, 0xA0], .res_4_B), ([0xCB, 0xA1], .res_4_C), ([0xCB, 0xA2], .res_4_D), ([0xCB, 0xA3], .res_4_E),
    ([0xCB, 0xA4], .res_4_H), ([0xCB, 0xA5], .res_4_L), ([0xCB, 0xA6], .res_4_atHL), ([0xCB, 0xA7], .res_4_A),
    ([0xCB, 0xA8], .res_5_B), ([0xCB, 0xA9], .res_5_C), ([0xCB, 0xAA], .res_5_D), ([0xCB, 0xAB], .res_5_E),
    ([0xCB, 0xAC], .res_5_H), ([0xCB, 0xAD], .res_5_L), ([0xCB, 0xAE], .res_5_atHL), ([0xCB, 0xAF], .res_5_A),
    ([0xCB, 0xB0], .res_6_B), ([0xCB, 0xB1], .res_6_C), ([0xCB, 0xB2], .res_6_D), ([0xCB, 0xB3], .res_6_E),
    ([0xCB, 0xB4], .res_6_H), ([0xCB, 0xB5], .res_6_L), ([0xCB, 0xB6], .res_6_atHL), ([0xCB, 0xB7], .res_6_A),
    ([0xCB, 0xB8], .res_7_B), ([0xCB, 0xB9], .res_7_C), ([0xCB, 0xBA], .res_7_D), ([0xCB, 0xBB], .res_7_E),
    ([0xCB, 0xBC], .res_7_H), ([0xCB, 0xBD], .res_7_L), ([0xCB, 0xBE], .res_7_atHL), ([0xCB, 0xBF], .res_7_A)] = true := by decide +kernel

theorem test_words_extended_6 : decodesTo
    [([0xCB, 0xC0], .set_0_B), ([0xCB, 0xC1], .set_0_C), ([0xCB, 0xC2], .set_0_D), ([0xCB, 0xC3], .set_0_E),
    ([0xCB, 0xC4], .set_0_H), ([0xCB, 0xC5], .set_0_L), ([0xCB, 0xC6], .set_0_atHL), ([0xCB, 0xC7], .set_0_A),
    ([0xCB, 0xC8], .set_1_B), ([0xCB, 0xC9], .set_1_C), ([0xCB, 0xCA], .set_1_D), ([0xCB, 0xCB], .set_1_E),
    ([0xCB, 0xCC], .set_1_H), ([0xCB, 0xCD], .set_1_L), ([0xCB, 0xCE], .set_1_atHL), ([0xCB, 0xCF], .set_1_A),
    ([0xCB, 0xD0], .set_2_B), ([0xCB, 0xD1], .set_2_C), ([0xCB, 0xD2], .set_2_D), ([0xCB, 0xD3], .set_2_E),
    ([0xCB, 0xD4], .set_2_H), ([0xCB, 0xD5], .set_2_L), ([0xCB, 0xD6], .set_2_atHL), ([0xCB, 0xD7], .set_2_A),
    ([0xCB, 0xD8], .set_3_B), ([0xCB, 0xD9], .set_3_C), ([0xCB, 0xDA], .set_3_D), ([0xCB, 0xDB], .set_3_E),
    ([0xCB, 0xDC], .set_3_H), ([0xCB, 0xDD], .set_3_L), ([0xCB, 0xDE], .set_3_atHL), ([0xCB, 0xDF], .set_3_A)] = true := by decide +kernel

theorem test_words_extended_7 : decodesTo
    [([0xCB, 0xE0], .set_4_B), ([0xCB, 0xE1], .set_4_C), ([0xCB, 0xE2], .set_4_D), ([0xCB, 0xE3], .set_4_E),
    ([0xCB, 0xE4], .set_4_H), ([0xCB, 0xE5], .set_4_L), ([0xCB, 0xE6], .set_4_atHL), ([0xCB, 0xE7], .set_4_A),
    ([0xCB, 0xE8], .set_5_B), ([0xCB, 0xE9], .set_5_C), ([0xCB, 0xEA], .set_5_D), ([0xCB, 0xEB], .set_5_E),
    ([0xCB, 0xEC], .set_5_H), ([0xCB, 0xED], .set_5_L), ([0xCB, 0xEE], .set_5_atHL), ([0xCB, 0xEF], .set_5_A),
    ([0xCB, 0xF0], .set_6_B), ([0xCB, 0xF1], .set_6_C), ([0xCB, 0xF2], .set_6_D), ([0xCB, 0xF3], .set_6_E),
    ([0xCB, 0xF4], .set_6_H), ([0xCB, 0xF5], .set_6_L), ([0xCB, 0xF6], .set_6_atHL), ([0xCB, 0xF7], .set_6_A),
    ([0xCB, 0xF8], .set_7_B), ([0xCB, 0xF9], .set_7_C), ([0xCB, 0xFA], .set_7_D), ([0xCB, 0xFB], .set_7_E),
    ([0xCB, 0xFC], .set_7_H), ([0xCB, 0xFD], .set_7_L), ([0xCB, 0xFE], .set_7_atHL), ([0xCB, 0xFF], .set_7_A)] = true := by decide +kernel

/-! ## The table's own numbers (host interface) -/

theorem test_table_word_base : decodeTableWord 8 0x78 = some .ld_A_B := rfl

theorem test_table_word_operands_zero : decodeTableWord 8 0xC3 = some (.jp_a16 0x0000) := rfl

theorem test_table_word_extended : decodeTableWord 16 0xCB7C = some .bit_7_H := rfl

theorem test_table_word_prefix : decodeTableWord 8 0xCB = some .prefix_CB := rfl

theorem test_fetch_word_is_run : after (State.reset.withFetchWord 16 0xCBC7) (fun t => (t.a, t.pc)) = some (0x01, 0x0002) := rfl

theorem test_fetch_word_after_reset : after (State.reset.withFetchWord 8 0x3C) (fun t => (t.a, t.f)) = some (0x01, 0x00) := rfl

/-! ## One step: the vectors of 95_test_vectors.md -/

theorem test_v1_ld_a_d8_keeps_flags :
    after ((tp [0x3E, 0x05]).setF 0xF0) (fun t => (t.a, t.f, t.pc)) = some (0x05, 0xF0, 0x0102) := rfl
theorem test_v3_ld_h_hl_uses_old_hl :
    after ({ tpRam [0x66] 0xC010 0xD0 with h := 0xC0, l := 0x10 }) (fun t => (t.h, t.l)) = some (0xD0, 0x10) := rfl
theorem test_v4_ld_hl_l :
    after ({ tp [0x75] with h := 0xC0, l := 0xAB }) (fun t => (t.read 0xC0AB, t.pc)) = some (0xAB, 0x0101) := rfl
theorem test_v5_store_to_rom_is_dropped :
    after ({ tp [0x36, 0xFF] with h := 0x02 }) (fun t => (t.read 0x0200, t.pc)) = some (0x00, 0x0102) := rfl
theorem test_v6_ld_a_hlinc_wraps :
    after ({ tp [0x2A] with h := 0xFF, l := 0xFF, a := 0x55 }) (fun t => (t.a, t.h, t.l)) = some (0x00, 0x00, 0x00) := rfl
theorem test_v7_ld_hldec_a_wraps :
    after ({ tp [0x32] with a := 0x55 }) (fun t => (t.h, t.l, t.read 0x0000)) = some (0xFF, 0xFF, 0x00) := rfl
theorem test_v8_ldh_a8_a :
    after ({ tp [0xE0, 0x80] with a := 0x3C }) (fun t => (t.read 0xFF80, t.pc)) = some (0x3C, 0x0102) := rfl
theorem test_v9_ldh_a_a8_unmapped :
    after ({ tp [0xF0, 0x44] with a := 0x99 }) (fun t => (t.a, t.pc)) = some (0x00, 0x0102) := rfl
theorem test_v10_ldh_c_a :
    after ({ tp [0xE2] with a := 0x21, c := 0xFE }) (fun t => (t.read 0xFFFE, t.pc)) = some (0x21, 0x0101) := rfl
theorem test_v11_ld_a_a16_low_byte_first :
    after (tpRam [0xFA, 0x02, 0xC1] 0xC102 0x9C) (fun t => (t.a, t.pc)) = some (0x9C, 0x0103) := rfl
theorem test_v22_ld_a16_sp :
    after ({ tp [0x08, 0x00, 0xC1] with sp := 0xBEEF }) (fun t => (t.read 0xC100, t.read 0xC101)) = some (0xEF, 0xBE) := rfl
theorem test_v23_ld_a16_sp_straddles :
    after ({ tp [0x08, 0xFF, 0xDF] with sp := 0xBEEF }) (fun t => (t.read 0xDFFF, t.read 0xE000)) = some (0xEF, 0x00) := rfl
theorem test_v25_ld_hl_sp_plus_8 :
    after (({ tp [0xF8, 0x08] with sp := 0xFFF8 }).setF 0xF0) (fun t => (t.hl, t.f)) = some (0x0000, 0x30) := rfl
theorem test_v27_ld_hl_sp_minus_1 :
    after ({ tp [0xF8, 0xFF] with sp := 0xD001 }) (fun t => (t.hl, t.f, t.sp)) = some (0xD000, 0x30, 0xD001) := rfl
theorem test_v30_add_a_a :
    after ({ tp [0x87] with a := 0x80 }) (fun t => (t.a, t.f)) = some (0x00, 0x90) := rfl
theorem test_v32_adc_carry :
    after (({ tp [0xCE, 0x00] with a := 0xFF }).setF 0x10) (fun t => (t.a, t.f)) = some (0x00, 0xB0) := rfl
theorem test_v35_sub_borrow :
    after ({ tp [0x90] with b := 0x01 }) (fun t => (t.a, t.f)) = some (0xFF, 0x70) := rfl
theorem test_v37_sbc_half_borrow_by_carry :
    after (({ tp [0x98] with a := 0x10 }).setF 0x10) (fun t => (t.a, t.f)) = some (0x0F, 0x60) := rfl
theorem test_v38_cp_leaves_a :
    after ({ tp [0xFE, 0x90] with a := 0x3C }) (fun t => (t.a, t.f)) = some (0x3C, 0x50) := rfl
theorem test_v39_inc_keeps_carry :
    after (({ tp [0x04] with b := 0x0F }).setF 0x10) (fun t => (t.b, t.f)) = some (0x10, 0x30) := rfl
theorem test_v42_dec_wraps_keeps_carry :
    after ((tp [0x1D]).setF 0x10) (fun t => (t.e, t.f)) = some (0xFF, 0x70) := rfl
theorem test_v44_dec_hl_to_zero :
    after ({ tpRam [0x35] 0xC000 0x01 with h := 0xC0 }) (fun t => (t.read 0xC000, t.f)) = some (0x00, 0xC0) := rfl
theorem test_v46_daa_after_add :
    after ({ tp [0x27] with a := 0x9A }) (fun t => (t.a, t.f)) = some (0x00, 0x90) := rfl
theorem test_v48_daa_after_sub :
    after (({ tp [0x27] with a := 0xFF }).setF 0x70) (fun t => (t.a, t.f)) = some (0x99, 0x50) := rfl
theorem test_v51_scf_keeps_z :
    after ((tp [0x37]).setF 0xE0) (fun t => (t.f, t.pc)) = some (0x90, 0x0101) := rfl
theorem test_v52_ccf :
    after ((tp [0x3F]).setF 0x70) (fun t => (t.f, t.pc)) = some (0x00, 0x0101) := rfl
theorem test_v60_add_hl_hl :
    after (({ tp [0x29] with h := 0x80 }).setF 0x80) (fun t => (t.hl, t.f)) = some (0x0000, 0x90) := rfl
theorem test_v61_add_hl_bc_half_carry :
    after ({ tp [0x09] with h := 0x0F, l := 0xFF, c := 0x01 }) (fun t => (t.hl, t.f)) = some (0x1000, 0x20) := rfl
theorem test_v63_inc_bc_wraps :
    after (({ tp [0x03] with b := 0xFF, c := 0xFF }).setF 0xF0) (fun t => (t.b, t.c, t.f)) = some (0x00, 0x00, 0xF0) := rfl
theorem test_v66_add_sp_minus_1 :
    after (({ tp [0xE8, 0xFF] with sp := 0x0000 }).setF 0xF0) (fun t => (t.sp, t.f)) = some (0xFFFF, 0x00) := rfl
theorem test_v69_add_sp_minus_128 :
    after ({ tp [0xE8, 0x80] with sp := 0x0080 }) (fun t => (t.sp, t.f)) = some (0x0000, 0x10) := rfl
theorem test_v70_and_sets_h :
    after (({ tp [0xA0] with a := 0xF0, b := 0x0F }).setF 0x10) (fun t => (t.a, t.f)) = some (0x00, 0xA0) := rfl
theorem test_v72_xor_a_a :
    after (({ tp [0xAF] with a := 0x5A }).setF 0x70) (fun t => (t.a, t.f)) = some (0x00, 0x80) := rfl
theorem test_v74_or_d8 :
    after ({ tp [0xF6, 0x80] with a := 0x01 }) (fun t => (t.a, t.f)) = some (0x81, 0x00) := rfl
theorem test_v75_cpl_keeps_z_c :
    after ((tp [0x2F]).setF 0x90) (fun t => (t.a, t.f)) = some (0xFF, 0xF0) := rfl
theorem test_v76_bit_7_h :
    after (({ tp [0xCB, 0x7C] with h := 0x80 }).setF 0x10) (fun t => (t.f, t.pc)) = some (0x30, 0x0102) := rfl
theorem test_v77_bit_4_hl :
    after ({ tpRam [0xCB, 0x66] 0xC000 0xEF with h := 0xC0 }) (fun t => (t.f, t.pc)) = some (0xA0, 0x0102) := rfl
theorem test_v79_res_0_hl :
    after ({ tpRam [0xCB, 0x86] 0xC000 0xFF with h := 0xC0 }) (fun t => (t.read 0xC000, t.f)) = some (0xFE, 0x00) := rfl
theorem test_v82_cb_cb_is_set_1_e :
    after (tp [0xCB, 0xCB]) (fun t => (t.e, t.pc)) = some (0x02, 0x0102) := rfl
theorem test_v90_rlca_clears_z :
    after ((tp [0x07]).setF 0xF0) (fun t => (t.a, t.f)) = some (0x00, 0x00) := rfl
theorem test_v93_rla_takes_carry :
    after (({ tp [0x17] with a := 0x80 }).setF 0x10) (fun t => (t.a, t.f)) = some (0x01, 0x10) := rfl
theorem test_v92_rrca :
    after ({ tp [0x0F] with a := 0x01 }) (fun t => (t.a, t.f)) = some (0x80, 0x10) := rfl
theorem test_v95_rra_takes_carry :
    after ((tp [0x1F]).setF 0x10) (fun t => (t.a, t.f)) = some (0x80, 0x00) := rfl
theorem test_v96_rlc_sets_z :
    after ((tp [0xCB, 0x00]).setF 0x10) (fun t => (t.b, t.f)) = some (0x00, 0x80) := rfl
theorem test_v97_rrc_hl :
    after ({ tpRam [0xCB, 0x0E] 0xC000 0x01 with h := 0xC0 }) (fun t => (t.read 0xC000, t.f)) = some (0x80, 0x10) := rfl
theorem test_v98_rl_c :
    after (({ tp [0xCB, 0x11] with c := 0x80 }).setF 0x10) (fun t => (t.c, t.f)) = some (0x01, 0x10) := rfl
theorem test_v99_rr_b :
    after ((tp [0xCB, 0x18]).setF 0x10) (fun t => (t.b, t.f)) = some (0x80, 0x00) := rfl
theorem test_v100_sla_a :
    after ({ tp [0xCB, 0x27] with a := 0xFF }) (fun t => (t.a, t.f)) = some (0xFE, 0x10) := rfl
theorem test_v101_sra_keeps_bit_7 :
    after ({ tp [0xCB, 0x28] with b := 0x81 }) (fun t => (t.b, t.f)) = some (0xC0, 0x10) := rfl
theorem test_v104_swap_hl :
    after ({ tpRam [0xCB, 0x36] 0xC000 0xA5 with h := 0xC0 }) (fun t => (t.read 0xC000, t.f)) = some (0x5A, 0x00) := rfl
theorem test_v105_srl_c :
    after ({ tp [0xCB, 0x39] with c := 0x81 }) (fun t => (t.c, t.f)) = some (0x40, 0x10) := rfl
theorem test_v111_jp_nz_not_taken :
    after ((tp [0xC2, 0x00, 0xC0]).setF 0x80) (fun t => t.pc) = some 0x0103 := rfl
theorem test_v112_jp_c_taken :
    after ((tp [0xDA, 0x34, 0x12]).setF 0x10) (fun t => t.pc) = some 0x1234 := rfl
theorem test_v113_jp_hl :
    after ({ tp [0xE9] with h := 0xC1, l := 0x23 }) (fun t => t.pc) = some 0xC123 := rfl
theorem test_v116_jr_minus_128 :
    after (tp [0x18, 0x80]) (fun t => t.pc) = some 0x0082 := rfl
theorem test_v118_jr_z_taken :
    after ((tp [0x28, 0x03]).setF 0x80) (fun t => t.pc) = some 0x0105 := rfl
theorem test_v120_call :
    after ({ tp [0xCD, 0x00, 0x20] with sp := 0xD000 }) (fun t => (t.pc, t.sp, t.read 0xCFFF, t.read 0xCFFE)) = some (0x2000, 0xCFFE, 0x01, 0x03) := rfl
theorem test_v121_call_z_not_taken :
    after ({ tp [0xCC, 0x00, 0x20] with sp := 0xD000 }) (fun t => (t.pc, t.sp)) = some (0x0103, 0xD000) := rfl
theorem test_v125_ret_c_taken :
    after (({ (tpRam [0xD8] 0xCFFE 0x34).write 0xCFFF 0x12 with sp := 0xCFFE }).setF 0x10) (fun t => (t.pc, t.sp)) = some (0x1234, 0xD000) := rfl
theorem test_v126_reti_sets_ime :
    after ({ (tpRam [0xD9] 0xCFFE 0x34).write 0xCFFF 0x12 with sp := 0xCFFE }) (fun t => (t.pc, t.sp, t.ime)) = some (0x1234, 0xD000, true) := rfl
theorem test_v127_rst_38 :
    after ({ tp [0xFF] with sp := 0xD000 }) (fun t => (t.pc, t.sp, t.read16 0xCFFE)) = some (0x0038, 0xCFFE, 0x0101) := rfl
theorem test_v131_push_af :
    after (({ tp [0xF5] with sp := 0xD000, a := 0x12 }).setF 0xF0) (fun t => (t.sp, t.read 0xCFFF, t.read 0xCFFE)) = some (0xCFFE, 0x12, 0xF0) := rfl
theorem test_v133_pop_af_masks :
    after ({ (tpRam [0xF1] 0xCFFE 0xFF).write 0xCFFF 0x12 with sp := 0xCFFE }) (fun t => (t.a, t.f, t.sp)) = some (0x12, 0xF0, 0xD000) := rfl
theorem test_v134_pop_from_unmapped :
    after ({ tp [0xE1] with h := 0x55, l := 0x55 }) (fun t => (t.hl, t.sp)) = some (0x0000, 0xEE01) := rfl
theorem test_v135_push_wraps :
    after ({ tp [0xE5] with sp := 0x0000, h := 0xAB, l := 0xCD }) (fun t => (t.sp, t.read 0xFFFE, t.read 0xFFFF)) = some (0xFFFE, 0xCD, 0x00) := rfl
theorem test_v141_halt :
    after (tp [0x76, 0x3C]) (fun t => (t.mode, t.pc)) = some (.halted, 0x0101) := rfl
theorem test_v142_stop :
    after (tp [0x10, 0x3C, 0x3C]) (fun t => (t.mode, t.pc)) = some (.stopped, 0x0102) := rfl
theorem test_v144_ei_alone :
    after (tp [0xFB]) (fun t => (t.ime, t.eiPending)) = some (false, true) := rfl
theorem test_v147_di :
    after ({ tp [0xF3] with ime := true }) (fun t => (t.ime, t.eiPending)) = some (false, false) := rfl
theorem test_v150_illegal_locks :
    after (tp [0xD3, 0x3C]) (fun t => (t.mode, t.pc)) = some (.locked, 0x0101) := rfl
theorem test_v156_unmapped_fetch :
    after ({ tp [] with pc := 0x8000 }) (fun t => (t.pc, t.a)) = some (0x8001, 0x00) := rfl

theorem test_v43_inc_hl_in_rom :
    after { tp [0x34, 0xFF] with h := 0x01, l := 0x01 } (fun t => (t.read 0x0101, t.f)) = some (0xFF, 0xA0) := rfl

theorem test_s1_end_to_end :
    after { State.reset with flags := ⟨true, false, true, false⟩, bus := [⟨0x0000, 0x0001, [(0, 0x3E), (1, 0x05)], true, true⟩] }
      (fun t => (t.a, t.pc, t.f, t.sp)) = some (0x05, 0x0002, 0xA0, 0xEDFF) := rfl

/-! ## Cycles (R311) -/

theorem test_cycles_of_taken_and_not_taken :
    (stepCycles (tp [0x28, 0x03]), stepCycles ((tp [0x28, 0x03]).setF 0x80)) = (8, 12) := rfl

theorem test_cycles_of_bit_and_set_at_hl : (stepCycles (tp [0xCB, 0x46]), stepCycles (tp [0xCB, 0xC6])) = (12, 16) := rfl

/-! ## The Bus and the host's operations: vectors B and E -/

/-- The regions of B7: an overlap. -/
def overlap : List Region :=
  [⟨0x1000, 0x1003, Memory.ofBytes [1, 2, 3, 4], true, true⟩,
    ⟨0x1002, 0x1005, Memory.ofBytes [0x0A, 0x0B, 0x0C, 0x0D], true, true⟩]

theorem test_b7_first_match_wins :
    [0x1000, 0x1003, 0x1004, 0x1005, 0x1006].map (Bus.read overlap) = [1, 4, 0x0C, 0x0D, 0] := rfl

theorem test_b8_unreadable_match_is_not_skipped :
    [0x1002, 0x1003, 0x1004].map (Bus.read (overlap.modify 0 fun r => { r with readable := false })) = [0, 0, 0x0C] := rfl

theorem test_b6_word_wraps :
    ({ State.reset with bus := [⟨0xFFFF, 0xFFFF, [(0, 0xAA)], true, true⟩, ⟨0x0000, 0x0000, [(0, 0xBB)], true, true⟩] } :
      State).read16 0xFFFF = 0xBBAA := rfl

theorem test_b9_word_straddles_two_regions :
    (({ State.reset with bus := [⟨0x2000, 0x2001, Memory.ofBytes [0x11, 0x22], true, true⟩,
        ⟨0x2002, 0x2003, Memory.ofBytes [0x33, 0x44], true, true⟩] } : State).write16 0x2001 0xAABB).bus.map
      (fun r => r.storage) = [Memory.ofBytes [0x11, 0xBB], Memory.ofBytes [0xAA, 0x44]] := rfl

theorem test_e5_round_trip_fails_on_unmapped_stack : (pop (push 0x5A (tp []))).1 = 0x00 := rfl

theorem test_e7_set_register_f : getRegister (setRegister .f 0xFF State.reset) .f = 0xF0 := rfl

theorem test_e8_set_register_pc : (setRegister .pc 0xFF { State.reset with pc := 0x1234 }).pc = 0x12FF := rfl

theorem test_v154_interrupt :
    (hostMove (.interrupt 0x0050) { tp [] with pc := 0x0101, sp := 0xD000, ime := true }).map
      (fun t => (t.pc, t.sp, t.ime, t.read16 0xCFFE)) = some (0x0050, 0xCFFE, false, 0x0101) := rfl

theorem test_v155_interrupt_not_enabled : hostMove (.interrupt 0x0050) (tp []) = none := rfl

theorem test_v153_wake : (hostMove .wake { tp [] with mode := .halted }).map (fun t => t.mode) = some .running := rfl

theorem test_end_of_run_puts_no_mode_on_the_self_loop :
    endOfRun { tp [0x18, 0xFE] with mode := .stopped } = true ∧
      endOfRun { tp [0xC3, 0x00, 0x01] with mode := .halted, ime := true } = true ∧
      endOfRun { tp [] with mode := .halted, ime := true } = false ∧
      endOfRun { tp [0x18, 0xFE] with mode := .locked } = false := by decide

theorem test_execute_port_takes_operands_at_pc :
    (hostMove (.execute 0x3E) { tp [0x05] with mode := .halted, eiPending := true }).map
      (fun t => (t.a, t.pc, t.mode, t.eiPending, t.ime)) = some (0x05, 0x0101, .halted, true, false) := rfl

/-! ## Memory: canonical form -/

theorem test_writing_zero_lists_nothing : Memory.write (Memory.write [] 5 0x12) 5 0x00 = [] := rfl

theorem test_writes_keep_offsets_rising : Memory.write (Memory.write [] 5 0x12) 3 0x34 = [(3, 0x34), (5, 0x12)] := rfl

/-! ## Witnesses: states and operands that meet the hypotheses of the statements -/

/-- RAM at 0xC000 to 0xDFFF and the stack inside it. -/
def stackState : State := { tp [] with sp := 0xD000 }

/-- The stack at the lowest place that still holds two bytes. -/
def lowStackState : State := { tp [] with sp := 0xC002 }

theorem witness_register_write : Reg8.a ≠ Reg8.b := by decide

theorem witness_first_match_none :
    (∀ r ∈ tpBus [], r.contains 0xE000 = false) ∧ (∀ r ∈ tpBus [], r.contains 0x8000 = false) ∧
      (∀ r ∈ tpBus [], r.contains 0xFFFF = false) := by decide

theorem witness_first_match_first_address :
    ∃ (front rest : List Region) (r : Region), overlap = front ++ r :: rest ∧
      (∀ q ∈ front, q.contains (0x1004 : Word) = false) ∧ front ≠ [] ∧
      r.first.toNat ≤ (0x1004 : Word).toNat ∧ (0x1004 : Word).toNat ≤ r.last.toNat :=
  ⟨overlap.take 1, [], ⟨0x1002, 0x1005, Memory.ofBytes [0x0A, 0x0B, 0x0C, 0x0D], true, true⟩, by decide⟩

theorem witness_first_match_bounds :
    (∀ q ∈ ([] : List Region), q.contains (0x0000 : Word) = false) ∧
      (0x0000 : Word).toNat ≤ (0x0000 : Word).toNat ∧ (0xFFFF : Word).toNat ≤ (0xFFFF : Word).toNat := by decide

theorem witness_read_after_write :
    (tp []).wf = true ∧ backed (tp []) 0xC000 = true ∧ backed (tp []) 0xDFFF = true ∧ backed (tp []) 0x7FFF = false ∧
      backed (tp []) 0xE000 = false := by decide

theorem witness_add_region :
    (0xFFFE : Word).toNat ≤ (0xFFFF : Word).toNat ∧
      ([1, 2] : List Byte).length = (0xFFFF : Word).toNat - (0xFFFE : Word).toNat + 1 ∧
      (0x0000 : Word).toNat ≤ (0x0000 : Word).toNat ∧
      ([7] : List Byte).length = (0x0000 : Word).toNat - (0x0000 : Word).toNat + 1 := by decide

theorem witness_permission_bits :
    (∃ r, (tp []).bus[0]? = some r) ∧ (∃ r, (tp []).bus[2]? = some r) ∧ (tp []).bus.length ≤ 3 :=
  ⟨⟨_, rfl⟩, ⟨_, rfl⟩, by decide⟩

theorem witness_decimal : (99 : Nat) < 100 ∧ (0 : Nat) < 100 := by decide

theorem witness_stack :
    stackState.wf = true ∧ backed stackState (stackState.sp - 1) = true ∧ backed stackState (stackState.sp - 2) = true ∧
      lowStackState.wf = true ∧ backed lowStackState (lowStackState.sp - 1) = true ∧
      backed lowStackState (lowStackState.sp - 2) = true := by decide

theorem witness_locked :
    ({ tp [] with mode := .locked } : State).mode = .locked ∧
      ∃ t, hostMove (.write 0xC000 0x01) { tp [] with mode := .locked } = some t := ⟨rfl, _, rfl⟩

theorem witness_interrupt_enabled :
    ((stackState.mode = .running ∨ stackState.mode = .halted) ∧ ({ stackState with ime := true } : State).ime = true) ∧
      (({ stackState with mode := .halted } : State).mode = .running ∨
        ({ stackState with mode := .halted } : State).mode = .halted) := by decide

theorem witness_interrupt_not_enabled :
    (stackState.mode = .stopped ∨ stackState.mode = .locked ∨ stackState.ime = false) ∧
      (({ stackState with mode := .stopped, ime := true } : State).mode = .stopped) := by decide

theorem witness_wake :
    (({ stackState with mode := .stopped } : State).mode = .halted ∨
        ({ stackState with mode := .stopped } : State).mode = .stopped) ∧
      (stackState.mode = .running ∨ stackState.mode = .locked) := by decide

theorem witness_interrupt_then_return :
    ∃ s : State, s.wf = true ∧ (s.mode = .running ∨ s.mode = .halted) ∧ s.ime = true ∧
      backed s (s.sp - 1) = true ∧ backed s (s.sp - 2) = true :=
  ⟨{ stackState with ime := true, mode := .halted }, by decide⟩

theorem witness_step_idle :
    ∃ s : State, s.mode = .locked ∨ s.mode = .halted ∨ s.mode = .stopped := ⟨{ tp [] with mode := .halted }, by decide⟩

theorem witness_step_runs :
    (tp [0xC3, 0x34, 0x12]).mode = .running ∧
      decode (bytesAt (tp [0xC3, 0x34, 0x12]) (tp [0xC3, 0x34, 0x12]).pc 3) = .ok (.jp_a16 0x1234, []) ∧
      decode (bytesAt (tp [0x3C]) (tp [0x3C]).pc 3) = .ok (.inc_A, [0x00, 0x00]) := ⟨rfl, rfl, rfl⟩

theorem witness_unmapped_fetch :
    State.reset.mode = .running ∧ unreadableAt State.reset State.reset.pc ∧ unreadableAt (tp []) 0x8000 ∧
      unreadableAt (tp []) 0xFFFF ∧ unreadableAt (setReadable 0 false (tp [0x3C])) 0x0100 := by
  refine ⟨rfl, nofun, nofun, nofun, ?_⟩
  rintro r ⟨⟩
  rfl

/-- Vector B8: the first region that contains PC is unreadable, a later one that contains it is readable. -/
theorem witness_unreadable_first_match :
    unreadableAt { State.reset with bus := overlap.modify 0 fun r => { r with readable := false } } 0x1003 ∧
      ∃ r ∈ overlap.modify 0 (fun r => { r with readable := false }), r.contains 0x1003 = true ∧ r.readable = true := by
  refine ⟨?_, by decide⟩
  rintro r ⟨⟩
  rfl

theorem witness_stack_without_memory :
    unwritableAt State.reset (State.reset.sp - 1) ∧ unwritableAt State.reset (State.reset.sp - 2) ∧
      unreadableAt State.reset State.reset.sp ∧ unreadableAt State.reset (State.reset.sp + 1) :=
  ⟨nofun, nofun, nofun, nofun⟩

/-- A stack at the end of the read-only region of TP: its bytes are not writable, the ones above it are unmapped. -/
theorem witness_read_only_stack :
    unwritableAt (tp []) (0x8000 - 1) ∧ unwritableAt (tp []) (0x8000 - 2) ∧ unreadableAt (tp []) 0x8000 ∧
      unreadableAt (tp []) 0x8001 := by
  refine ⟨?_, ?_, nofun, nofun⟩ <;> (rintro r ⟨⟩; rfl)

theorem witness_enable :
    (tp [0xFB]).mode = .running ∧ (tp [0xFB]).read (tp [0xFB]).pc = 0xFB#8 ∧
      ({ tp [0x00] with eiPending := true } : State).eiPending = true ∧ (tp [0x00]).read (tp [0x00]).pc ≠ 0xF3#8 ∧
      (tp [0xF3]).read (tp [0xF3]).pc = 0xF3#8 := by decide

theorem witness_end_of_run :
    endOfRun (tp [0x18, 0xFE]) = true ∧ endOfRun (tp [0xC3, 0x00, 0x01]) = true ∧
      endOfRun { tp [] with mode := .halted } = true ∧ ((tp [0x18, 0xFE]).mode = .running → (tp [0x18, 0xFE]).eiPending = false) ∧
      endOfRun { tp [0x18, 0xFE] with mode := .stopped } = true := by decide

theorem witness_well_formed : Instr.wellFormed (.jp_a16 0xFFFF) = true ∧ Instr.wellFormed .illegal_DD = true := by decide

theorem witness_decodes : decode [0xCB, 0xCB, 0x00] = .ok (.set_1_E, [0x00]) := rfl

theorem witness_registers_not_named :
    Reg8.b ∉ destinations (tp []) (Instr.form .ld_A_B) ∧ Reg8.a ∉ destinations (tp []) (Instr.form .cp_A_B) ∧
      writesSP (Instr.form .ld_A_B) = false ∧ writesPC (Instr.form .push_BC) = false := by decide

theorem witness_memory_outside :
    stores (tp []) (Instr.form .ld_A_B) = [] ∧ (0xC000 : Word) ∉ stores stackState (Instr.form .push_BC) ∧
      (0xCFFD : Word) ∉ stores stackState (Instr.form .push_BC) := by decide

theorem witness_step_and_region : (∃ t, step (tp []) = .next t) ∧ (∃ r, (tp []).bus[0]? = some r ∧ r.writable = false) :=
  ⟨⟨_, rfl⟩, _, rfl, rfl⟩

theorem witness_unreadable :
    ∃ s s' : State, s ≠ s' ∧ s.observable = s'.observable :=
  ⟨setReadable 0 false (tp [0x3C]), setReadable 0 false (tp [0x04]), by decide⟩

theorem witness_invariant : (tp [0x3C]).wf = true ∧ ∃ t, step (tp [0x3C]) = .next t := ⟨by decide, _, rfl⟩

theorem witness_host_move : ∃ t, hostMove (.push 0x12) stackState = some t := ⟨_, rfl⟩

end Sys2Proof.Tests
end

/-! ## Fetch (R20) -/

namespace Sys2Proof.Machine

theorem word_add_one_eq_ofNat (w : Word) : w + 1 = BitVec.ofNat 16 ((w.toNat + 1) % 65536) := by
  apply BitVec.eq_of_toNat_eq
  simp [BitVec.toNat_add]

/-- One step further from `w + 1` is one more step from `w`. -/
theorem word_add_one_add_ofNat (w : Word) (k : Nat) : w + 1#16 + BitVec.ofNat 16 k = w + BitVec.ofNat 16 (k + 1) := by
  rw [BitVec.add_assoc, Nat.add_comm k 1, BitVec.ofNat_add]

/-- `n` fetches give the `n` bytes from PC on and move PC by `n`, by induction on `n`. -/
theorem fetchMany_eq (n : Nat) (s : State) :
    fetchMany n s =
      ((List.range n).map (fun k => s.read (s.pc + BitVec.ofNat 16 k)), { s with pc := s.pc + BitVec.ofNat 16 n }) := by
  induction n generalizing s with
  | zero => simp [fetchMany]
  | succ n ih =>
    rw [fetchMany, ih (fetch s).2]
    simp [List.range_succ_eq_map, Function.comp_def, word_add_one_add_ofNat]

/-- Settles O6: one fetch by the wrap of PC + 1, `n` fetches by `fetchMany_eq`. -/
theorem fetchGivesTheBytesFromPCInOrder : Obligations.FetchGivesTheBytesFromPCInOrder := by
  intro s n
  refine ⟨?_, fetchMany_eq n s⟩
  rw [← word_add_one_eq_ofNat]
  rfl

end Sys2Proof.Machine

/-! ## Registers under the accessors

A write of HL or of a pair is a write of two general registers, so one rule about `setReg` gives the frame of each of them. -/

namespace Sys2Proof.Machine

theorem State.reg_setReg_of_ne {r q : Reg8} (h : q ≠ r) (s : State) (v : Byte) : (s.setReg r v).reg q = s.reg q := by
  rw [State.reg_setReg, if_neg h]

theorem State.reg_setReg_of_not_mem {r q : Reg8} (h : q ∉ [r]) (s : State) (v : Byte) : (s.setReg r v).reg q = s.reg q :=
  State.reg_setReg_of_ne (List.ne_of_not_mem_cons h) s v

theorem State.reg_setReg_setReg_of_not_mem {r₁ r₂ q : Reg8} (h : q ∉ [r₁, r₂]) (s : State) (v w : Byte) :
    ((s.setReg r₁ v).setReg r₂ w).reg q = s.reg q := by
  rw [State.reg_setReg_of_not_mem (List.not_mem_of_not_mem_cons h), State.reg_setReg_of_ne (List.ne_of_not_mem_cons h)]

theorem State.reg_setHL_of_not_mem {q : Reg8} (h : q ∉ [Reg8.h, .l]) (s : State) (w : Word) : (s.setHL w).reg q = s.reg q :=
  State.reg_setReg_setReg_of_not_mem h s (hiByte w) (loByte w)

theorem State.reg_setPair_of_not_mem {p : Pair} {q : Reg8} (h : q ∉ pairHalves p) (s : State) (w : Word) :
    (s.setPair p w).reg q = s.reg q := by
  cases p with
  | bc | de | hl => exact State.reg_setReg_setReg_of_not_mem h s (hiByte w) (loByte w)
  | sp => rfl

/-- What a projection reads is kept by a conditional change when the change itself keeps it. -/
theorem State.keeps_ite {α : Type} (g : State → α) {c : Prop} [Decidable c] {s t : State} (h : g t = g s) :
    g (if c then t else s) = g s := by
  split
  · exact h
  · rfl

end Sys2Proof.Machine

/-! ## Frames of the shared operations -/

namespace Sys2Proof.Laws

open Sys2Proof.Machine

/-- The eight ALU operations change A and the flags alone. -/
theorem aluEffect_frame (op : Alu) (v : Byte) (s : State) :
    aluEffect op v s = { s with a := (aluEffect op v s).a, flags := (aluEffect op v s).flags } := by
  cases op <;> rfl

/-- An extended operation changes at most one general register, the flags and the Bus. -/
theorem extEffect_frame (x : ExtForm) (s : State) :
    ∃ r v flags bus, extEffect x s = { s.setReg r v with flags := flags, bus := bus } := by
  cases x with
  | rotReg k r => exact ⟨r, _, _, (s.setReg r _).bus, rfl⟩
  | resReg i r | setReg i r => exact ⟨r, _, (s.setReg r _).flags, (s.setReg r _).bus, rfl⟩
  | rotHL | bitReg | bitHL | resHL | setHL => exact ⟨.a, s.a, _, _, rfl⟩

theorem extEffect_sp (x : ExtForm) (s : State) : (extEffect x s).sp = s.sp := by
  obtain ⟨r, v, flags, bus, h⟩ := extEffect_frame x s
  rw [h, State.setReg_sp]

theorem extEffect_pc (x : ExtForm) (s : State) : (extEffect x s).pc = s.pc := by
  obtain ⟨r, v, flags, bus, h⟩ := extEffect_frame x s
  rw [h, State.setReg_pc]

end Sys2Proof.Laws

/-! ## Flags (R17) -/

namespace Sys2Proof.Machine

open Sys2Proof.Laws

theorem FlagRow.keepAll_allows_of_eq {old new : Flags} (h : new = old) : FlagRow.keepAll.allows old new = true := by
  simp [FlagRow.keepAll, FlagRow.allows, FlagEffect.allows, h]

theorem inc8_flags_allowed (v : Byte) (f : Flags) :
    FlagRow.allows ⟨.compute, .clear, .compute, .keep⟩ f (inc8 v f).2 = true := by
  simp [FlagRow.allows, FlagEffect.allows, inc8]

theorem dec8_flags_allowed (v : Byte) (f : Flags) :
    FlagRow.allows ⟨.compute, .set, .compute, .keep⟩ f (dec8 v f).2 = true := by
  simp [FlagRow.allows, FlagEffect.allows, dec8]

theorem daa8_flags_allowed (a : Byte) (f : Flags) :
    FlagRow.allows ⟨.compute, .keep, .clear, .compute⟩ f (daa8 a f).2 = true := by
  unfold daa8
  split <;> simp [FlagRow.allows, FlagEffect.allows]

theorem add16_flags_allowed (a v : Word) (f : Flags) :
    FlagRow.allows ⟨.keep, .clear, .compute, .compute⟩ f (add16 a v f).2 = true := by
  simp [FlagRow.allows, FlagEffect.allows, add16]

theorem aluEffect_flags_allowed (op : Alu) (v : Byte) (s : State) :
    (aluFlagRow op).allows s.flags (aluEffect op v s).flags = true := by
  cases op <;> rfl

/-- SWAP clears C, which the other rotates and shifts compute (R216). -/
theorem rotFlags_allowed (k : Rot) (v : Byte) (c : Bool) (old : Flags) :
    (extFlagRow (.rotHL k)).allows old (rotFlags (rotate8 k v c).1 (rotate8 k v c).2) = true := by
  cases k <;> rfl

theorem bitFlags_allowed (v : Byte) (i : Index8) (f : Flags) :
    FlagRow.allows ⟨.compute, .clear, .set, .keep⟩ f (bitFlags v i f) = true := by
  simp [FlagRow.allows, FlagEffect.allows, bitFlags]

theorem extEffect_flags_allowed (x : ExtForm) (s : State) :
    (extFlagRow x).allows s.flags (extEffect x s).flags = true := by
  cases x with
  | rotReg k | rotHL k => exact rotFlags_allowed k _ _ _
  | bitReg i | bitHL i => exact bitFlags_allowed _ i _
  | resReg | setReg => exact FlagRow.keepAll_allows_of_eq (State.setReg_flags ..)
  | resHL | setHL => exact FlagRow.keepAll_allows_of_eq rfl

/-- Every family's operation leaves the flags its row allows. -/
theorem effect_flags_allowed (f : Form) (s : State) : (flagRow f).allows s.flags (effect f s).flags = true := by
  cases f with
  | aluReg op | aluHL op | aluImm op => exact aluEffect_flags_allowed op _ s
  | incReg | incHL => exact inc8_flags_allowed ..
  | decReg | decHL => exact dec8_flags_allowed ..
  | daa => exact daa8_flags_allowed ..
  | addHLPair => exact add16_flags_allowed ..
  | scf | ccf | cpl => simp [flagRow, effect, setCarry, complementCarry, complementA, FlagRow.allows, FlagEffect.allows]
  | addSPOff | ldHLSPOff | rlca | rrca | rla | rra | prefixCB => rfl
  | ext x => exact extEffect_flags_allowed x s
  | pop p =>
    cases p with
    | bc | de | hl => exact FlagRow.keepAll_allows_of_eq rfl
    | af => rfl
  | ldRegReg | ldRegImm | ldRegHL => exact FlagRow.keepAll_allows_of_eq (State.setReg_flags ..)
  | ldPairImm | incPair | decPair => exact FlagRow.keepAll_allows_of_eq (State.setPair_flags ..)
  | jpCond | jrCond | callCond | retCond => exact FlagRow.keepAll_allows_of_eq (State.keeps_ite State.flags rfl)
  | _ => exact FlagRow.keepAll_allows_of_eq rfl

/-- Settles O48: every row is its family's operation, and the split on families gives each row's flags. -/
theorem flagsOutsideTheTableAreUnchanged : Obligations.FlagsOutsideTheTableAreUnchanged :=
  fun i s _ => ⟨_, exec_eq_effect i s, effect_flags_allowed i.form s⟩

/-! ## Registers, SP and PC (R15) -/

theorem aluEffect_reg_of_not_mem {op : Alu} {q : Reg8} (h : q ∉ if op = .cp then [] else [Reg8.a]) (v : Byte) (s : State) :
    (aluEffect op v s).reg q = s.reg q := by
  cases op with
  | cp => rfl
  | _ => exact State.reg_setReg_of_not_mem h s _

theorem extEffect_reg_of_not_mem {x : ExtForm} {q : Reg8} (h : q ∉ extDestinations x) (s : State) :
    (extEffect x s).reg q = s.reg q := by
  cases x with
  | rotReg | resReg | setReg => exact State.reg_setReg_of_not_mem h s _
  | rotHL | bitReg | bitHL | resHL | setHL => rfl

theorem popPair_reg_of_not_mem {p : StackPair} {q : Reg8} {s : State} (h : q ∉ destinations s (.pop p)) :
    (popPair p s).reg q = s.reg q := by
  cases p with
  | bc | de | hl => exact State.reg_setReg_setReg_of_not_mem h s _ _
  | af => exact State.reg_setReg_of_not_mem h s _

/-- A family's operation writes no general register but its destinations. -/
theorem effect_reg_of_not_mem {f : Form} {s : State} {q : Reg8} (h : q ∉ destinations s f) :
    (effect f s).reg q = s.reg q := by
  cases f with
  | ldRegReg | ldRegImm | ldRegHL | incReg | decReg | ldABC | ldADE | ldAAbs | ldhAC | ldhAImm | daa | cpl
  | rlca | rrca | rla | rra => exact State.reg_setReg_of_not_mem h s _
  | ldAHLInc | ldAHLDec =>
    exact (State.reg_setHL_of_not_mem (List.not_mem_of_not_mem_cons h) _ _).trans
      (State.reg_setReg_of_ne (List.ne_of_not_mem_cons h) s _)
  | ldHLIncA | ldHLDecA | ldHLSPOff | addHLPair => exact State.reg_setHL_of_not_mem h s _
  | ldPairImm | incPair | decPair => exact State.reg_setPair_of_not_mem h s _
  | aluReg | aluHL | aluImm => exact aluEffect_reg_of_not_mem h _ s
  | pop => exact popPair_reg_of_not_mem h
  | ext | prefixCB => exact extEffect_reg_of_not_mem h _
  | jpCond | jrCond | callCond | retCond => exact State.keeps_ite (State.reg · q) rfl
  | _ => rfl

/-- A family's operation that is no stack or SP operation keeps SP. -/
theorem effect_sp_of_not_writesSP {f : Form} (h : writesSP f = false) (s : State) : (effect f s).sp = s.sp := by
  cases f with
  | ldRegReg | ldRegImm | ldRegHL | incReg | decReg => exact State.setReg_sp ..
  | ldPairImm p | incPair p | decPair p =>
    cases p with
    | bc | de | hl => rfl
    | sp => nomatch h
  | aluReg | aluHL | aluImm => rw [effect, aluEffect_frame]
  | ext | prefixCB => exact extEffect_sp ..
  | jpCond | jrCond => exact State.keeps_ite State.sp rfl
  | ldSPHL | addSPOff | push | pop | call | callCond | ret | retCond | reti | rst => nomatch h
  | _ => rfl

/-- A family's operation that is neither control flow nor `prefixCB` keeps PC. -/
theorem effect_pc_of_not_writesPC {f : Form} (h : writesPC f = false) (s : State) : (effect f s).pc = s.pc := by
  cases f with
  | ldRegReg | ldRegImm | ldRegHL | incReg | decReg => exact State.setReg_pc ..
  | ldPairImm | incPair | decPair => exact State.setPair_pc ..
  | aluReg | aluHL | aluImm => rw [effect, aluEffect_frame]
  | pop => exact State.setStackPair_pc ..
  | ext => exact extEffect_pc ..
  | jp | jpCond | jpHL | jr | jrCond | call | callCond | ret | retCond | reti | rst | prefixCB => nomatch h
  | _ => rfl

/-- Settles O49, from the frame of every family's operation. -/
theorem registersNotNamedAreUnchanged : Obligations.RegistersNotNamedAreUnchanged :=
  fun i s => ⟨_, exec_eq_effect i s, fun _ => effect_reg_of_not_mem,
    fun h => effect_sp_of_not_writesSP h s, fun h => effect_pc_of_not_writesPC h s⟩

/-! ## IME, ei_pending and the mode (R27 to R29) -/

/-- The control items: IME, ei_pending and the mode (R27 to R29). -/
structure Control where
  ime : Bool
  eiPending : Bool
  mode : Mode

/-- The control items of a state. -/
def State.control (s : State) : Control := ⟨s.ime, s.eiPending, s.mode⟩

theorem State.control_setReg (s : State) (r : Reg8) (v : Byte) : (s.setReg r v).control = s.control := by
  simp [State.control]

theorem State.control_setPair (s : State) (p : Pair) (w : Word) : (s.setPair p w).control = s.control := by
  simp [State.control]

theorem State.control_setStackPair (s : State) (p : StackPair) (w : Word) :
    (s.setStackPair p w).control = s.control := by
  simp [State.control]

/-- The control items after a family's operation (R239, R261 to R264, R280). -/
def controlAfter (s : State) : Form → Control
  | .di => ⟨false, false, s.mode⟩
  | .reti => ⟨true, false, s.mode⟩
  | .ei => ⟨s.ime, true, s.mode⟩
  | .halt => ⟨s.ime, s.eiPending, .halted⟩
  | .stop _ => ⟨s.ime, s.eiPending, .stopped⟩
  | .illegal _ => ⟨s.ime, s.eiPending, .locked⟩
  | _ => s.control

theorem extEffect_control (x : ExtForm) (s : State) : (extEffect x s).control = s.control := by
  obtain ⟨r, v, flags, bus, h⟩ := extEffect_frame x s
  rw [h]
  exact State.control_setReg s r v

theorem effect_control (f : Form) (s : State) : (effect f s).control = controlAfter s f := by
  cases f with
  | ldRegReg | ldRegImm | ldRegHL | incReg | decReg => exact State.control_setReg ..
  | ldPairImm | incPair | decPair => exact State.control_setPair ..
  | aluReg | aluHL | aluImm => rw [effect, aluEffect_frame]; rfl
  | pop => exact State.control_setStackPair ..
  | ext | prefixCB => exact extEffect_control ..
  | jpCond | jrCond | callCond | retCond => exact State.keeps_ite State.control rfl
  | _ => rfl

/-- Settles O51: `effect_control` gives the control items by family, and DI, RETI and EI are families of one row each. -/
theorem controlStateHasFewWriters : Obligations.ControlStateHasFewWriters := by
  intro i s
  have h := effect_control i.form s
  refine ⟨_, exec_eq_effect i s, (congrArg Control.ime h).trans ?_, (congrArg Control.eiPending h).trans ?_,
    (congrArg Control.mode h).trans ?_⟩
  · cases i <;> rfl
  · cases i <;> rfl
  · cases i.form <;> rfl

end Sys2Proof.Machine

/-! ## Construction, the registers, F, the pairs and the ports -/

namespace Sys2Proof.Machine

open Sys2Proof.Laws

/-- Settles O1: the reset state's items, the laws of the empty Bus, and `reset()` keeping the Bus. -/
theorem constructionAndResetGiveTheStatedState : Obligations.ConstructionAndResetGiveTheStatedState := by
  refine ⟨?registers, rfl, rfl, rfl, rfl, rfl, rfl, rfl, ?emptyBus, fun _ => rfl⟩
  case registers => intro r; cases r <;> rfl
  case emptyBus => exact fun addr v => ⟨Bus.read_nil addr, rfl⟩

/-- Settles O2, from the rules of `setReg`. -/
theorem registerWriteChangesThatRegisterAlone : Obligations.RegisterWriteChangesThatRegisterAlone :=
  fun s r v => ⟨s.reg_setReg_same r v, fun _ h => State.reg_setReg_of_ne h s v, s.setReg_flags r v, s.setReg_sp r v,
    s.setReg_pc r v, s.setReg_ime r v, s.setReg_eiPending r v, s.setReg_mode r v, s.setReg_bus r v⟩

/-- The positions of the flags in F (R16) and its empty low nibble (R12). -/
theorem Flags.toByte_bits (f : Flags) :
    f.toByte &&& 0x0F#8 = 0#8 ∧ f.toByte.getLsbD 7 = f.z ∧ f.toByte.getLsbD 6 = f.n ∧ f.toByte.getLsbD 5 = f.h ∧
      f.toByte.getLsbD 4 = f.c := by
  obtain ⟨z, n, h, c⟩ := f
  revert z n h c
  decide

theorem State.f_setF (s : State) (v : Byte) : (s.setF v).f = v &&& 0xF0#8 := Flags.toByte_ofByte v

theorem State.f_setStackPair_af (s : State) (w : Word) : (s.setStackPair .af w).f = loByte w &&& 0xF0#8 :=
  Flags.toByte_ofByte (loByte w)

/-- POP AF loads F with the byte at SP, masked (R257). -/
theorem popPair_af_f (s : State) : (popPair .af s).f = s.read s.sp &&& 0xF0#8 := by
  rw [popPair, State.f_setStackPair_af, pop16_eq, loByte_wordOf]

/-- Settles O3: every path to F ends in `Flags.ofByte`, which keeps the top nibble. -/
theorem flagByteKeepsItsTopNibbleOnly : Obligations.FlagByteKeepsItsTopNibbleOnly := by
  intro s v w
  obtain ⟨hlow, hz, hn, hh, hc⟩ := s.flags.toByte_bits
  exact ⟨hlow, hz, hn, hh, hc, s.f_setF v, s.f_setStackPair_af w, s.f_setF v,
    _, exec_eq_effect .pop_AF s, popPair_af_f s⟩

theorem wordOf_hiByte_maskedLoByte (w : Word) : wordOf (hiByte w) (loByte w &&& 0xF0#8) = w &&& 0xFFF0#16 := by
  have hmask : wordOf (hiByte w &&& 0xFF#8) (loByte w &&& 0xF0#8) = wordOf (hiByte w) (loByte w) &&& wordOf 0xFF#8 0xF0#8 :=
    BitVec.and_append.symm
  rw [wordOf_hiByte_loByte] at hmask
  rw [← show hiByte w &&& 0xFF#8 = hiByte w from BitVec.and_allOnes]
  exact hmask

/-- AF reads back with the low nibble of F cleared (R12, R14). -/
theorem State.stackPair_setStackPair_af (s : State) (w : Word) : (s.setStackPair .af w).stackPair .af = w &&& 0xFFF0#16 := by
  rw [← wordOf_hiByte_maskedLoByte, ← s.f_setStackPair_af w]
  rfl

/-- Settles O4: a pair read is `wordOf` of its halves, and a pair write gives each half its byte. -/
theorem pairsAreViewsOfTheirHalves : Obligations.PairsAreViewsOfTheirHalves :=
  fun s w => ⟨toNat_wordOf s.b s.c, toNat_wordOf s.d s.e, toNat_wordOf s.h s.l, toNat_wordOf s.a s.f, rfl, rfl, rfl, rfl,
    fun p => s.pair_setPair_same p w, s.stackPair_setStackPair_af w, toNat_hiByte w, toNat_loByte w⟩

/-- Settles O5: each port is its item's own accessor, SP and PC by bytes through `hiByte`. -/
theorem registerPortsReadAndWriteTheirItem : Obligations.RegisterPortsReadAndWriteTheirItem :=
  fun _ _ _ _ => ⟨⟨rfl, rfl⟩, ⟨rfl, rfl⟩, ⟨rfl, rfl⟩, ⟨rfl, rfl⟩, ⟨rfl, rfl⟩, ⟨rfl, rfl⟩, ⟨rfl, rfl⟩, ⟨rfl, rfl⟩,
    ⟨rfl, rfl⟩, ⟨rfl, rfl⟩⟩

end Sys2Proof.Machine

/-! ## What an instruction stores

An instruction sees the Bus through its reads and changes it through its stores: `effect_with_bus` says so once, and the frame of
memory, the permissions, the invariant and the secrecy of unreadable bytes follow from it. -/

namespace Sys2Proof.Machine

open Sys2Proof.Laws

/-- The Bus after a list of byte writes, in order. -/
def Bus.storeAll (bus : List Region) (ws : List (Word × Byte)) : List Region :=
  ws.foldl (fun b w => Bus.write b w.1 w.2) bus

@[simp] theorem Bus.storeAll_nil (bus : List Region) : Bus.storeAll bus [] = bus := rfl

@[simp] theorem Bus.storeAll_cons (bus : List Region) (w : Word × Byte) (ws : List (Word × Byte)) :
    Bus.storeAll bus (w :: ws) = Bus.storeAll (Bus.write bus w.1 w.2) ws := rfl

/-- The byte writes of a 16-bit push (R252). -/
def pushedBytes (w : Word) (s : State) : List (Word × Byte) := [(s.sp - 1, hiByte w), (s.sp - 2, loByte w)]

/-- The byte writes of an extended instruction. -/
def extStoredBytes (s : State) : ExtForm → List (Word × Byte)
  | .rotHL k => [(s.hl, (rotate8 k (s.read s.hl) s.flags.c).1)]
  | .resHL i => [(s.hl, s.read s.hl &&& ~~~bitMask i)]
  | .setHL i => [(s.hl, s.read s.hl ||| bitMask i)]
  | _ => []

/-- The byte writes of an instruction, on the state its fetch left. -/
def storedBytes (s : State) : Form → List (Word × Byte)
  | .ldHLReg r => [(s.hl, s.reg r)]
  | .ldHLImm n => [(s.hl, n)]
  | .ldBCA => [(s.pair .bc, s.a)]
  | .ldDEA => [(s.pair .de, s.a)]
  | .ldAbsA addr => [(addr, s.a)]
  | .ldhCA => [(highAddr s.c, s.a)]
  | .ldhImmA n => [(highAddr n, s.a)]
  | .ldHLIncA | .ldHLDecA => [(s.hl, s.a)]
  | .ldAbsSP addr => [(addr, loByte s.sp), (addr + 1, hiByte s.sp)]
  | .incHL => [(s.hl, (inc8 (s.read s.hl) s.flags).1)]
  | .decHL => [(s.hl, (dec8 (s.read s.hl) s.flags).1)]
  | .push p => pushedBytes (s.stackPair p) s
  | .call _ | .rst _ => pushedBytes s.pc s
  | .callCond cc _ => if condHolds cc s.flags then pushedBytes s.pc s else []
  | .ext x => extStoredBytes s x
  | .prefixCB => extStoredBytes s (decodeExt (s.read s.pc))
  | _ => []

theorem storedBytes_callCond (s : State) (cc : Cond) (w : Word) :
    storedBytes s (.callCond cc w) = if condHolds cc s.flags then pushedBytes s.pc s else [] := rfl

theorem map_fst_extStoredBytes (s : State) (x : ExtForm) : (extStoredBytes s x).map Prod.fst = extStores s x := by
  cases x <;> rfl

/-- The writes go to the addresses that `stores` names. -/
theorem map_fst_storedBytes (s : State) (f : Form) : (storedBytes s f).map Prod.fst = stores s f := by
  cases f with
  | callCond => exact apply_ite (List.map Prod.fst) ..
  | ext x => exact map_fst_extStoredBytes s x
  | prefixCB => exact map_fst_extStoredBytes s _
  | _ => rfl

/-! ### The accessors on another Bus -/

theorem State.setReg_with_bus (s : State) (bus : List Region) (r : Reg8) (v : Byte) :
    State.setReg { s with bus := bus } r v = { s.setReg r v with bus := bus } := by cases r <;> rfl

theorem State.setPair_with_bus (s : State) (bus : List Region) (p : Pair) (w : Word) :
    State.setPair { s with bus := bus } p w = { s.setPair p w with bus := bus } := by cases p <;> rfl

theorem State.setStackPair_with_bus (s : State) (bus : List Region) (p : StackPair) (w : Word) :
    State.setStackPair { s with bus := bus } p w = { s.setStackPair p w with bus := bus } := by cases p <;> rfl

theorem aluEffect_with_bus (s : State) (bus : List Region) (op : Alu) (v : Byte) :
    aluEffect op v { s with bus := bus } = { aluEffect op v s with bus := bus } := by cases op <;> rfl

theorem push16_with_bus (s : State) (bus : List Region) (w : Word) :
    push16 w { s with bus := bus } = { push16 w s with bus := Bus.storeAll bus (pushedBytes w s) } := by
  simp only [push16_eq]; rfl

section

variable {s : State} {bus : List Region} (h : ∀ addr, State.read { s with bus := bus } addr = s.read addr)
include h

/-- A 16-bit pop takes the bytes it reads. -/
theorem pop16_with_bus : pop16 { s with bus := bus } = ((pop16 s).1, { (pop16 s).2 with bus := bus }) := by
  simp only [pop16_eq, h]

/-- On a Bus that reads the same, an extended instruction does the same and its stores go to that Bus. -/
theorem extEffect_with_bus (x : ExtForm) :
    extEffect x { s with bus := bus } = { extEffect x s with bus := Bus.storeAll bus (extStoredBytes s x) } := by
  cases x with
  | rotReg k r => simp only [extEffect, rotateReg, State.setReg_with_bus]; rfl
  | rotHL k => simp only [extEffect, rotateMem]; rw [h]; rfl
  | bitReg => rfl
  | bitHL => simp only [extEffect]; rw [h]; rfl
  | resReg | setReg => exact State.setReg_with_bus ..
  | resHL => simp only [extEffect, clearBitMem]; rw [h]; rfl
  | setHL => simp only [extEffect, setBitMem]; rw [h]; rfl

/-- On a Bus that reads the same, an instruction does the same and its stores go to that Bus. -/
theorem effect_with_bus (f : Form) :
    effect f { s with bus := bus } = { effect f s with bus := Bus.storeAll bus (storedBytes s f) } := by
  cases f with
  | ldRegReg | ldRegImm => exact State.setReg_with_bus ..
  | ldRegHL | ldABC | ldADE | ldAAbs | ldhAC | ldhAImm =>
    simp only [effect]; rw [h]; exact State.setReg_with_bus ..
  | ldAHLInc | ldAHLDec => simp only [effect, loadAIncHL, loadADecHL]; rw [h]; rfl
  | incReg | decReg => simp only [effect, incReg, decReg, State.setReg_with_bus]; rfl
  | incHL | decHL => simp only [effect, incMem, decMem]; rw [h]; rfl
  | ldPairImm => exact State.setPair_with_bus ..
  | incPair p | decPair p => cases p <;> rfl
  | aluReg | aluImm => exact aluEffect_with_bus ..
  | aluHL => simp only [effect]; rw [h]; exact aluEffect_with_bus ..
  | push p => cases p <;> exact push16_with_bus ..
  | call | rst => exact congrArg (jump _) (push16_with_bus s bus s.pc)
  | ret => exact congrArg (fun p => jump p.1 p.2) (pop16_with_bus h)
  | reti => exact congrArg (fun p => { p.2 with pc := p.1, ime := true, eiPending := false }) (pop16_with_bus h)
  | pop p =>
    simp only [effect, popPair, pop16_with_bus h]
    exact State.setStackPair_with_bus ..
  | jpCond | jrCond => simp only [effect, jumpIf, jumpRelIf]; split <;> rfl
  | callCond cc =>
    simp only [effect, callIf, storedBytes_callCond]
    split
    · exact congrArg (jump _) (push16_with_bus s bus s.pc)
    · rfl
  | retCond => simp only [effect, retIf, ret, pop16_with_bus h]; split <;> rfl
  | ext x => exact extEffect_with_bus h x
  | prefixCB =>
    simp only [effect, fetch_fst]
    rw [h]
    exact extEffect_with_bus (s := { s with pc := s.pc + 1 }) h _
  | _ => rfl

end

/-- The Bus after an instruction is the Bus with the instruction's writes. -/
theorem effect_bus (f : Form) (s : State) : (effect f s).bus = Bus.storeAll s.bus (storedBytes s f) :=
  congrArg State.bus (effect_with_bus (s := s) (bus := s.bus) (fun _ => rfl) f)

end Sys2Proof.Machine

/-! ## Unreadable bytes (R44)

Two states with the same observable differ in their Buses alone, and these read the same; so a step makes the same writes on both. -/

namespace Sys2Proof.Machine

open Sys2Proof.Laws

/-- The region as a program can see it: its bytes blanked where they cannot be read. -/
def Region.visible (r : Region) : Region := if r.readable then r else { r with storage := [] }

theorem State.observable_eq (s : State) : s.observable = { s with bus := s.bus.map Region.visible } := rfl

theorem Region.visible_of_readable {r : Region} (h : r.readable = true) : r.visible = r := if_pos h

theorem Region.visible_of_unreadable {r : Region} (h : r.readable = false) : r.visible = { r with storage := [] } := by
  rw [Region.visible, h]
  rfl

@[simp] theorem Region.readable_visible (r : Region) : r.visible.readable = r.readable := by
  unfold Region.visible; split <;> rfl

@[simp] theorem Region.writable_visible (r : Region) : r.visible.writable = r.writable := by
  unfold Region.visible; split <;> rfl

@[simp] theorem Region.contains_visible (r : Region) (addr : Word) : r.visible.contains addr = r.contains addr := by
  unfold Region.visible; split <;> rfl

@[simp] theorem Region.visible_visible (r : Region) : r.visible.visible = r.visible := by
  cases h : r.readable with
  | true => rw [Region.visible_of_readable h, Region.visible_of_readable h]
  | false => rw [Region.visible_of_unreadable h]; exact Region.visible_of_unreadable h

/-- A store does the same, as far as a program can see, to the region as seen. -/
theorem Region.visible_store_visible (r : Region) (addr : Word) (v : Byte) :
    (r.visible.store addr v).visible = (r.store addr v).visible := by
  cases h : r.readable with
  | true => rw [Region.visible_of_readable h]
  | false =>
    rw [Region.visible_of_unreadable h, Region.visible_of_unreadable (r := r.store addr v) h]
    exact Region.visible_of_unreadable h

theorem Bus.read_map_visible (bus : List Region) (addr : Word) :
    Bus.read (bus.map Region.visible) addr = Bus.read bus addr := by
  induction bus with
  | nil => rfl
  | cons r bus ih =>
    rw [List.map_cons, Bus.read_cons, Bus.read_cons, ih, Region.contains_visible, Region.readable_visible]
    cases h : r.readable with
    | true => rw [Region.visible_of_readable h]
    | false => rfl

theorem Bus.map_visible_write (bus : List Region) (addr : Word) (v : Byte) :
    (Bus.write (bus.map Region.visible) addr v).map Region.visible = (Bus.write bus addr v).map Region.visible := by
  induction bus with
  | nil => rfl
  | cons r bus ih =>
    rw [List.map_cons, Bus.write_cons, Bus.write_cons, Region.contains_visible, Region.writable_visible]
    split
    · split <;> simp [Region.visible_store_visible]
    · simp [ih]

theorem Bus.read_eq_of_map_visible_eq {bus bus' : List Region} (h : bus.map Region.visible = bus'.map Region.visible)
    (addr : Word) : Bus.read bus addr = Bus.read bus' addr := by
  rw [← Bus.read_map_visible bus, h, Bus.read_map_visible]

/-- The same writes on two Buses that look the same leave them looking the same. -/
theorem Bus.map_visible_storeAll {bus bus' : List Region} (h : bus.map Region.visible = bus'.map Region.visible)
    (ws : List (Word × Byte)) :
    (Bus.storeAll bus ws).map Region.visible = (Bus.storeAll bus' ws).map Region.visible := by
  induction ws generalizing bus bus' with
  | nil => exact h
  | cons w ws ih =>
    refine ih ?_
    rw [← Bus.map_visible_write bus, h, Bus.map_visible_write]

/-- Two states look the same when they differ in their Buses alone and these look the same. -/
theorem State.exists_bus_of_observable_eq {s s' : State} (h : s.observable = s'.observable) :
    ∃ bus, s' = { s with bus := bus } ∧ bus.map Region.visible = s.bus.map Region.visible := by
  obtain ⟨a, b, c, d, e, h, l, flags, sp, pc, ime, eiPending, mode, bus⟩ := s
  obtain ⟨a', b', c', d', e', h', l', flags', sp', pc', ime', eiPending', mode', bus'⟩ := s'
  simp only [State.observable_eq, State.mk.injEq] at h
  exact ⟨bus', by simp [h], by simp [h]⟩

theorem State.read_eq_of_observable_eq {s s' : State} (h : s.observable = s'.observable) (addr : Word) :
    s.read addr = s'.read addr :=
  Bus.read_eq_of_map_visible_eq (congrArg State.bus h) addr

/-- An instruction acts alike on two states that look the same. -/
theorem effect_observable {s s' : State} (h : s.observable = s'.observable) (f : Form) :
    (effect f s).observable = (effect f s').observable := by
  obtain ⟨bus, rfl, hbus⟩ := State.exists_bus_of_observable_eq h
  rw [effect_with_bus (Bus.read_eq_of_map_visible_eq hbus), State.observable_eq, State.observable_eq, effect_bus,
    Bus.map_visible_storeAll hbus]

theorem delayedEnable_observable (pending : Bool) (op : Byte) (s : State) :
    (delayedEnable pending op s).observable = delayedEnable pending op s.observable := by
  rw [delayedEnable_eq, delayedEnable_eq]
  rfl

/-- Two states that look the same agree in every item but the Bus; a step reads these four of them. -/
theorem State.items_eq_of_observable_eq {s s' : State} (h : s.observable = s'.observable) :
    s.pc = s'.pc ∧ s.flags = s'.flags ∧ s.mode = s'.mode ∧ s.eiPending = s'.eiPending := by
  obtain ⟨bus, rfl, -⟩ := State.exists_bus_of_observable_eq h
  exact ⟨rfl, rfl, rfl, rfl⟩

theorem State.fetched_eq_of_observable_eq {s s' : State} (h : s.observable = s'.observable) : s.fetched = s'.fetched := by
  obtain ⟨hpc, -⟩ := State.items_eq_of_observable_eq h
  simp only [State.fetched, hpc, State.read_eq_of_observable_eq h]

theorem State.afterFetch_observable {s s' : State} (h : s.observable = s'.observable) :
    s.afterFetch.observable = s'.afterFetch.observable := by
  obtain ⟨hpc, -⟩ := State.items_eq_of_observable_eq h
  rw [State.afterFetch, State.afterFetch, ← State.fetched_eq_of_observable_eq h, ← hpc]
  exact congrArg (fun t => { t with pc := s.pc + 1 + BitVec.ofNat 16 s.fetched.2, eiPending := false }) h

/-- Settles O53: the two steps fetch the same instruction, and it acts alike on both states. -/
theorem unreadableBytesCannotBeLearnt : Obligations.UnreadableBytesCannotBeLearnt := by
  intro s s' h
  obtain ⟨hpc, -, hmode, hpending⟩ := State.items_eq_of_observable_eq h
  have hread := State.read_eq_of_observable_eq h
  have hfetched := State.fetched_eq_of_observable_eq h
  have hafter := State.afterFetch_observable h
  by_cases hm : s.mode = .running
  · have hm' := hmode.symm.trans hm
    refine ⟨_, _, step_running hm, step_running hm', ?state, ?cost⟩
    case state =>
      rw [delayedEnable_observable, delayedEnable_observable, effect_observable hafter, hfetched, hpending, hread, hpc]
    case cost =>
      rw [stepCycles_running hm, stepCycles_running hm', hfetched]
      obtain ⟨hpc', hflags, -⟩ := State.items_eq_of_observable_eq hafter
      exact formCycles_congr hflags (hpc' ▸ State.read_eq_of_observable_eq hafter _) _
  · have hm' : s'.mode ≠ .running := hmode ▸ hm
    exact ⟨s, s', step_idle hm, step_idle hm', h, (stepCycles_idle hm).trans (stepCycles_idle hm').symm⟩

end Sys2Proof.Machine

/-! ## What every write keeps, every step keeps -/

namespace Sys2Proof.Machine

open Sys2Proof.Laws

section

variable {P : List Region → Prop} (hwrite : ∀ bus addr v, P bus → P (Bus.write bus addr v))
include hwrite

theorem Bus.storeAll_keeps (ws : List (Word × Byte)) {bus : List Region} (h : P bus) : P (Bus.storeAll bus ws) := by
  induction ws generalizing bus with
  | nil => exact h
  | cons w ws ih => exact ih (hwrite _ _ _ h)

theorem effect_keeps (f : Form) {s : State} (h : P s.bus) : P (effect f s).bus := by
  rw [effect_bus]
  exact Bus.storeAll_keeps hwrite _ h

theorem step_keeps {s t : State} (hstep : step s = .next t) (h : P s.bus) : P t.bus := by
  obtain ⟨-, rfl⟩ | ⟨-, rfl⟩ := step_cases hstep
  · exact h
  · rw [delayedEnable_eq]
    exact effect_keeps hwrite _ h

end

/-- Settles O54: a write keeps every region admissible and its storage canonical. -/
theorem stepKeepsTheInvariant : Obligations.StepKeepsTheInvariant :=
  fun _ _ hwf hstep => step_keeps (P := (Bus.wf · = true)) (fun _ addr v h => Bus.wf_write h addr v) hstep hwf

/-! ### The frame of memory -/

/-- Writes change no address but their own. -/
theorem Bus.read_storeAll_of_not_mem {ws : List (Word × Byte)} {addr : Word} (h : addr ∉ ws.map Prod.fst)
    (bus : List Region) : Bus.read (Bus.storeAll bus ws) addr = Bus.read bus addr := by
  induction ws generalizing bus with
  | nil => rfl
  | cons w ws ih =>
    rw [List.map_cons, List.mem_cons, not_or] at h
    obtain ⟨hne, hmem⟩ := h
    rw [Bus.storeAll_cons, ih hmem, Bus.read_write_of_ne bus hne]

/-- Settles O50: the Bus after an instruction has the instruction's writes, and they go to the addresses of `stores`. -/
theorem memoryOutsideTheStoresIsUnchanged : Obligations.MemoryOutsideTheStoresIsUnchanged := by
  intro i s
  have hbus := effect_bus i.form s
  rw [← map_fst_storedBytes]
  refine ⟨_, exec_eq_effect i s, fun hnone => ?_, fun addr hmem => ?_⟩
  · rw [hbus, List.map_eq_nil_iff.1 hnone, Bus.storeAll_nil]
  · rw [State.read_eq, hbus, Bus.read_storeAll_of_not_mem hmem, State.read_eq]

/-! ### Bounds and permissions -/

/-- A region with the bounds and permission bits of another, and its bytes too where they are not writable (R43, R45). -/
def Region.Keeps (r r' : Region) : Prop :=
  r'.first = r.first ∧ r'.last = r.last ∧ r'.readable = r.readable ∧ r'.writable = r.writable ∧
    (r.writable = false → r'.storage = r.storage)

theorem Region.Keeps.refl (r : Region) : r.Keeps r := ⟨rfl, rfl, rfl, rfl, fun _ => rfl⟩

theorem Region.Keeps.store {r r' : Region} (h : r.Keeps r') (hw : r'.writable = true) (addr : Word) (v : Byte) :
    r.Keeps (r'.store addr v) := by
  obtain ⟨hfirst, hlast, hreadable, hwritable, -⟩ := h
  exact ⟨hfirst, hlast, hreadable, hwritable, fun hr => nomatch hr.symm.trans (hwritable.symm.trans hw)⟩

/-- A Bus of as many regions as another, each of them kept. -/
def Bus.Keeps (bus bus' : List Region) : Prop :=
  bus'.length = bus.length ∧ ∀ (k : Nat) (r : Region), bus[k]? = some r → ∃ r', bus'[k]? = some r' ∧ r.Keeps r'

theorem Bus.Keeps.write {bus bus' : List Region} (h : Bus.Keeps bus bus') (addr : Word) (v : Byte) :
    Bus.Keeps bus (Bus.write bus' addr v) := by
  obtain ⟨hlength, hkeeps⟩ := h
  refine ⟨(Bus.length_write bus' addr v).trans hlength, fun k r hr => ?_⟩
  obtain ⟨r', hr', hk⟩ := hkeeps k r hr
  obtain hsame | ⟨q, hq, hw, -, hstore⟩ := Bus.getElem?_write bus' addr v k
  · exact ⟨r', hsame.trans hr', hk⟩
  · obtain rfl := Option.some.inj (hr'.symm.trans hq)
    exact ⟨_, hstore, hk.store hw addr v⟩

/-- Settles O52: a write alters the storage of one writable region at most. -/
theorem stepRespectsPermissions : Obligations.StepRespectsPermissions :=
  fun s _ hstep => step_keeps (P := Bus.Keeps s.bus) (fun _ addr v h => h.write addr v) hstep
    ⟨rfl, fun _ r hr => ⟨r, hr, Region.Keeps.refl r⟩⟩

/-! ### The host's moves -/

theorem setRegister_bus (id : ByteItem) (v : Byte) (s : State) : (setRegister id v s).bus = s.bus := by
  cases id with
  | reg r => exact s.setReg_bus r v
  | f | sp | pc => rfl

theorem setRegister16_bus (id : WordItem) (w : Word) (s : State) : (setRegister16 id w s).bus = s.bus := by
  cases id <;> rfl

theorem execute_eq_effect (op : Byte) (s : State) :
    execute op s = .next (effect (fetchRest op s).1.form (fetchRest op s).2) := exec_eq_effect _ _

theorem fetchRest_bus (op : Byte) (s : State) : (fetchRest op s).2.bus = s.bus := by rw [fetchRest_eq]

theorem wf_effect {s : State} (h : s.wf = true) (f : Form) : (effect f s).wf = true :=
  effect_keeps (P := (Bus.wf · = true)) (fun _ addr v h => Bus.wf_write h addr v) f h

theorem State.wf_of_bus_eq {s t : State} (hwf : s.wf = true) (h : t.bus = s.bus) : t.wf = true := by
  rw [State.wf_eq, h]
  exact hwf

/-- Settles O55: a host move writes through the Bus, adds an admissible region, changes a permission bit, or keeps the Bus. -/
theorem hostMovesKeepTheInvariant : Obligations.HostMovesKeepTheInvariant := by
  intro s t m hwf h
  cases m with
  | addRegion first last block =>
    obtain ⟨⟨hle, hlen⟩, ht⟩ := Option.ite_none_right_eq_some.1 h
    obtain rfl := Option.some.inj ht
    have hs : Bus.wf s.bus = true := hwf
    have hnew := Region.wf_ofBytes hle hlen Config.regionDefaultPerm Config.regionDefaultPerm
    simp [State.wf_eq, Bus.wf_append, hs, hnew]
  | setReadable i | setWritable i =>
    obtain rfl := Option.some.inj h
    exact Bus.wf_modify hwf i fun _ hr => hr
  | write addr v => exact Option.some.inj h ▸ State.wf_write hwf addr v
  | write16 addr w => exact Option.some.inj h ▸ State.wf_write16 hwf addr w
  | push v => exact Option.some.inj h ▸ Bus.wf_write hwf (s.sp - 1) v
  | setRegister id v => exact State.wf_of_bus_eq hwf (Option.some.inj h ▸ setRegister_bus id v s)
  | setRegister16 id w => exact State.wf_of_bus_eq hwf (Option.some.inj h ▸ setRegister16_bus id w s)
  | fetch | pop | reset => exact Option.some.inj h ▸ hwf
  | execute op =>
    rw [hostMove, execute_eq_effect] at h
    exact Option.some.inj h ▸ wf_effect (State.wf_of_bus_eq hwf (fetchRest_bus op s)) _
  | interrupt v =>
    obtain ⟨-, ht⟩ := Option.ite_none_right_eq_some.1 h
    exact Option.some.inj ht ▸ wf_push16 (s := { s with ime := false, eiPending := false, mode := .running }) hwf s.pc
  | wake =>
    obtain ⟨-, ht⟩ := Option.ite_none_right_eq_some.1 h
    exact Option.some.inj ht ▸ hwf

end Sys2Proof.Machine

/-! ## The first region that contains an address (R41, R44, R45) -/

namespace Sys2Proof.Machine

open Sys2Proof.Laws Sys2Proof.Claims

theorem Bus.resolve_append_of_not_contains {front : List Region} {addr : Word} (h : ∀ q ∈ front, q.contains addr = false)
    (bus : List Region) : Bus.resolve (front ++ bus) addr = (Bus.resolve bus addr).map (· + front.length) := by
  induction front with
  | nil => simp
  | cons q front ih =>
    rw [List.forall_mem_cons] at h
    simp [Bus.resolve_cons, h.1, ih h.2, Function.comp_def, Nat.add_assoc]

theorem Bus.read_append_of_not_contains {front : List Region} {addr : Word} (h : ∀ q ∈ front, q.contains addr = false)
    (bus : List Region) : Bus.read (front ++ bus) addr = Bus.read bus addr := by
  induction front with
  | nil => rfl
  | cons q front ih =>
    rw [List.forall_mem_cons] at h
    simp [Bus.read_cons, h.1, ih h.2]

theorem Bus.write_append_of_not_contains {front : List Region} {addr : Word} (h : ∀ q ∈ front, q.contains addr = false)
    (bus : List Region) (v : Byte) : Bus.write (front ++ bus) addr v = front ++ Bus.write bus addr v := by
  induction front with
  | nil => rfl
  | cons q front ih =>
    rw [List.forall_mem_cons] at h
    simp [Bus.write_cons, h.1, ih h.2]

/-- Settles O7: the regions before the first match are passed over, and the match answers. -/
theorem firstMatchingRegionAnswers : Obligations.FirstMatchingRegionAnswers := by
  intro addr v
  constructor
  · intro bus h
    rw [← List.append_nil bus]
    exact ⟨Bus.resolve_append_of_not_contains h [], Bus.read_append_of_not_contains h [],
      Bus.write_append_of_not_contains h [] v⟩
  · intro front rest r h hfirst hlast
    have hr : r.contains addr = true := (Region.contains_iff r addr).2 ⟨hfirst, hlast⟩
    rw [Bus.resolve_append_of_not_contains h, Bus.read_append_of_not_contains h, Bus.write_append_of_not_contains h,
      Bus.resolve_cons, Bus.read_cons, Bus.write_cons, if_pos hr, if_pos hr, if_pos hr]
    exact ⟨congrArg some (Nat.zero_add _), rfl, rfl⟩

/-! ## A read after a write -/

/-- A write leaves the same region the first match, with the byte stored where it is writable. -/
theorem Bus.find?_write (bus : List Region) (addr : Word) (v : Byte) :
    (Bus.write bus addr v).find? (fun r => r.contains addr) =
      (bus.find? (fun r => r.contains addr)).map (fun r => if r.writable then r.store addr v else r) := by
  induction bus with
  | nil => rfl
  | cons r bus ih =>
    rw [Bus.write_cons]
    cases hc : r.contains addr with
    | true => cases hw : r.writable <;> simp [hc, hw]
    | false => simp [hc, ih]

theorem backed_eq_find (s : State) (addr : Word) :
    backed s addr = (s.bus.find? (fun r => r.contains addr)).any (fun r => r.readable && r.writable) := by
  rw [backed, ← List.isSome_find?]
  cases s.bus.find? (fun r => r.contains addr) <;> rfl

/-- Reading back the address just written: its first match decides. -/
theorem State.read_write_same {s : State} (hwf : s.wf = true) (addr : Word) (v : Byte) :
    (s.write addr v).read addr = if backed s addr = true then v else s.read addr := by
  rw [State.read_eq, State.read_eq, State.write_bus, Bus.read_eq_find, Bus.read_eq_find, Bus.find?_write, backed_eq_find]
  cases hf : s.bus.find? (fun r => r.contains addr) with
  | none => rfl
  | some r =>
    have hr : r.wf = true := (Bus.wf_iff s.bus).1 hwf r (List.mem_of_find?_eq_some hf)
    have hc : r.contains addr = true := List.find?_some (p := fun r : Region => r.contains addr) hf
    have hload : (r.store addr v).load addr = v := by rw [Region.load_store hr hc hc, if_pos rfl]
    cases hw : r.writable with
    | false => simp [hw]
    | true => cases hread : r.readable <;> simp [hw, hread, hload]

/-- Settles O8: another address by `read_write_of_ne`, the address itself by its first match. -/
theorem readAfterWrite : Obligations.ReadAfterWrite := by
  intro s addr other v hwf
  by_cases h : other = addr
  · subst h
    simpa using State.read_write_same hwf other v
  · rw [if_neg fun hc => h hc.1]
    exact Bus.read_write_of_ne s.bus h v

/-- Settles O9: a word is `wordOf` of its bytes, and the address after `addr` is `addr + 1`. -/
theorem wordAccessIsTwoByteAccesses : Obligations.WordAccessIsTwoByteAccesses := by
  intro s addr w
  rw [← word_add_one_eq_ofNat]
  exact ⟨toNat_wordOf _ _, rfl⟩

/-! ## The host's operations on regions (R42, R43) -/

/-- `add_region` with admissible arguments (R42). -/
theorem addRegion_eq {first last : Word} {block : List Byte} (hle : first.toNat ≤ last.toNat)
    (hlen : block.length = last.toNat - first.toNat + 1) (s : State) :
    addRegion first last block s = some { s with bus := s.bus ++ [⟨first, last, Memory.ofBytes block, true, true⟩] } :=
  if_pos ⟨hle, hlen⟩

/-- Settles O10: the appended region is made of the block, and a permission bit is changed in place. -/
theorem regionOperationsOfTheHost : Obligations.RegionOperationsOfTheHost := by
  intro s first last block i bit
  refine ⟨?append, ?change, ?outside⟩
  case append =>
    intro hle hlen
    refine ⟨_, addRegion_eq hle hlen s, rfl, rfl, rfl, rfl, Region.wf_ofBytes hle hlen true true, fun k _ => ?_⟩
    rw [Memory.ofBytes, ← Nat.zero_add k, Memory.read_ofBytesFrom, Nat.zero_add]
    rfl
  case change =>
    intro r hr
    simp only [hostMove, setReadable, setWritable, List.modify_eq_set_getElem?, hr]
    exact ⟨rfl, rfl⟩
  case outside =>
    intro hi
    simp only [hostMove, setReadable, setWritable, List.modify_eq_self hi, and_self]

/-! ## A stack without memory (R63) -/

theorem State.read_of_unreadableAt {s : State} {addr : Word} (h : unreadableAt s addr) : s.read addr = 0#8 := by
  rw [State.read_eq, Bus.read_eq_find]
  cases hf : s.bus.find? (fun r => r.contains addr) with
  | none => rfl
  | some r => simp [h r hf]

theorem State.write_of_unwritableAt {s : State} {addr : Word} (h : unwritableAt s addr) (v : Byte) : s.write addr v = s := by
  rw [State.write, Bus.write_of_unwritable h]

theorem push16_of_unwritableAt {s : State} (h₁ : unwritableAt s (s.sp - 1)) (h₂ : unwritableAt s (s.sp - 2)) (w : Word) :
    push16 w s = { s with sp := s.sp - 2 } := by
  rw [push16_eq, State.write_of_unwritableAt h₁, State.write_of_unwritableAt h₂]

theorem pop16_of_unreadableAt {s : State} (h₁ : unreadableAt s s.sp) (h₂ : unreadableAt s (s.sp + 1)) :
    pop16 s = (0x0000#16, { s with sp := s.sp + 2 }) := by
  rw [pop16_eq, State.read_of_unreadableAt h₁, State.read_of_unreadableAt h₂]
  rfl

theorem exec_ret_eq (s : State) : exec .ret s = .next (ret s) := exec_eq_effect .ret s

/-- Settles O58: RST, trap entry and RET are the push and the pop with moves of the control items. -/
theorem stackWithoutMemoryLosesItsBytes : Obligations.StackWithoutMemoryLosesItsBytes := by
  intro s w y
  constructor
  · intro h₁ h₂
    refine ⟨push16_of_unwritableAt h₁ h₂ w, ?rst, ?entry⟩
    case rst =>
      rw [exec_toInstr, effect, restart, call, push16_of_unwritableAt h₁ h₂, restartTarget, Nat.mul_comm]
      rfl
    case entry =>
      rw [enterInterrupt_eq, State.write_of_unwritableAt h₁, State.write_of_unwritableAt h₂]
  · intro h₁ h₂
    have hpop := pop16_of_unreadableAt h₁ h₂
    exact ⟨hpop, by rw [exec_ret_eq, ret, hpop, jump]⟩

/-! ## A fetch from unmapped or unreadable space (R62) -/

/-- The byte 0x00 is NOP, whatever follows it. -/
theorem restOf_zero (b1 b2 : Byte) : restOf 0x00#8 b1 b2 = (.nop, 0) := rfl

theorem effect_nop (s : State) : effect Instr.nop.form s = s := rfl

/-- Settles O39: the byte fetched is 0x00. -/
theorem unmappedFetchIsNop : Obligations.UnmappedFetchIsNop := by
  intro s hm h
  have hop : s.read s.pc = 0x00#8 := State.read_of_unreadableAt h
  have hfetched : s.fetched = (.nop, 0) := by rw [State.fetched, hop, restOf_zero]
  rw [step_running hm, hop, hfetched, delayedEnable_eq, State.afterFetch, hfetched]
  rw [effect_nop]
  simp

end Sys2Proof.Machine

/-! ## The field code tables (R71, R78 to R83)

The simp lemmas of the decoder's tables read a code's meaning back. Here is the other direction, and the case splits over the values
of a field and of a byte's fields. -/

namespace Sys2Proof

open Sys2Proof.Machine

theorem bitVec3_cases {motive : BitVec 3 → Prop} (h0 : motive 0#3) (h1 : motive 1#3) (h2 : motive 2#3) (h3 : motive 3#3)
    (h4 : motive 4#3) (h5 : motive 5#3) (h6 : motive 6#3) (h7 : motive 7#3) (y : BitVec 3) : motive y := by
  obtain ⟨i⟩ := y
  fin_cases i
  exacts [h0, h1, h2, h3, h4, h5, h6, h7]

theorem bitVec2_cases {motive : BitVec 2 → Prop} (h0 : motive 0#2) (h1 : motive 1#2) (h2 : motive 2#2) (h3 : motive 3#2)
    (x : BitVec 2) : motive x := by
  obtain ⟨i⟩ := x
  fin_cases i
  exacts [h0, h1, h2, h3]

/-- A register-select code is a register's, or the one of the byte at HL (R78). -/
theorem operandCode_cases {motive : BitVec 3 → Prop} (reg : ∀ r : Reg8, motive r.code) (atHL : motive atHLCode)
    (c : BitVec 3) : motive c := by
  cases c using bitVec3_cases with
  | h0 => exact reg .b
  | h1 => exact reg .c
  | h2 => exact reg .d
  | h3 => exact reg .e
  | h4 => exact reg .h
  | h5 => exact reg .l
  | h6 => exact atHL
  | h7 => exact reg .a

/-- The field `y` is its parts `p` and `q` (R71). -/
theorem joinPQ_cases {motive : BitVec 3 → Prop} (join : ∀ p q, motive (joinPQ p q)) (y : BitVec 3) : motive y := by
  have hy : joinPQ (fieldP y) (fieldQ y) = y := by cases y using bitVec3_cases <;> rfl
  exact hy ▸ join _ _

/-- A byte is one of the four quarters of its table (R84, R85). -/
theorem joinXYZ_cases {motive : Byte → Prop} (x0 : ∀ y z, motive (joinXYZ 0 y z)) (x1 : ∀ y z, motive (joinXYZ 1 y z))
    (x2 : ∀ y z, motive (joinXYZ 2 y z)) (x3 : ∀ y z, motive (joinXYZ 3 y z)) (op : Byte) : motive op := by
  rw [← joinXYZ_fields op]
  cases fieldX op using bitVec2_cases with
  | h0 => exact x0 _ _
  | h1 => exact x1 _ _
  | h2 => exact x2 _ _
  | h3 => exact x3 _ _

@[simp] theorem ofCode_atHLCode : Operand8.ofCode atHLCode = .atHL := rfl

@[simp] theorem code_ofCode_pair (c : BitVec 2) : (Pair.ofCode c).code = c := by
  cases c using bitVec2_cases <;> rfl

@[simp] theorem code_ofCode_stackPair (c : BitVec 2) : (StackPair.ofCode c).code = c := by
  cases c using bitVec2_cases <;> rfl

@[simp] theorem code_ofCode_alu (c : BitVec 3) : (Alu.ofCode c).code = c := by
  cases c using bitVec3_cases <;> rfl

@[simp] theorem code_ofCode_rot (c : BitVec 3) : (Rot.ofCode c).code = c := by
  cases c using bitVec3_cases <;> rfl

@[simp] theorem indexCode_indexOfCode (c : BitVec 3) : indexCode (indexOfCode c) = c := rfl

/-- Settles O43: the register-select table over its 256 arguments, the other tables by evaluation. -/
theorem fieldCodeTables : Obligations.FieldCodeTables :=
  ⟨by decide +kernel, fun _ _ _ => ⟨rfl, rfl, rfl, rfl⟩, rfl, rfl, rfl, fun _ => ⟨rfl, rfl, rfl, rfl⟩, rfl, rfl, rfl, rfl⟩

/-- Settles O44: each word is evaluated. -/
theorem writtenWordsDecode : Obligations.WrittenWordsDecode :=
  ⟨rfl, rfl, rfl, rfl, rfl, rfl, rfl, rfl, rfl, rfl, rfl, rfl⟩

/-! ## The length of the bytes (R70) -/

theorem encode_ne_nil (f : Form) : f.encode ≠ [] := by
  cases f <;> exact List.cons_ne_nil _ _

theorem length_encode (i : Instr) : (encode i).length = i.length := by
  rw [encode, Instr.length]
  cases i.form <;> rfl

/-! ## The extended table and the encoder (R85) -/

theorem decodeExt_byte (x : ExtForm) : decodeExt x.byte = x := by
  cases x <;> simp [ExtForm.byte, decodeExt, getRegisterFromByte]

theorem byte_decodeExt (cb : Byte) : (decodeExt cb).byte = cb := by
  cases cb using joinXYZ_cases with
  | x0 y z | x1 y z | x2 y z | x3 y z =>
    cases z using operandCode_cases <;> simp [decodeExt, getRegisterFromByte, ExtForm.byte]

/-! ## The base table and the encoder (R84) -/

/-- The base table on an opcode byte and a list of operand bytes, one that is missing read as zero. -/
def baseForm (op : Byte) (operands : List Byte) : Form := decodeBase op (operands.getD 0 0) (operands.getD 1 0)

theorem operandBytes_le_two (op : Byte) : operandBytes op ≤ 2 := by
  rw [operandBytes]
  cases decodeBase op 0 0 <;> simp [Form.operandCount]

/-- The byte 0xCB is decoded without its operands. -/
theorem baseForm_prefixByte (operands : List Byte) : baseForm Config.prefixByte operands = .prefixCB := rfl

/-! ### Decoded, then encoded -/

theorem encode_decodeX0 (y z : BitVec 3) (n1 n2 : Byte) :
    (decodeX0 y z n1 n2).encode = joinXYZ 0 y z :: [n1, n2].take (decodeX0 y z 0 0).operandCount := by
  cases z using bitVec3_cases with
  | h0 => cases y using bitVec3_cases <;> simp [decodeX0, Form.encode, Form.operandCount] <;> rfl
  | h1 | h3 =>
    cases y using joinPQ_cases with
    | join p q => cases q <;> simp [decodeX0, Form.encode, Form.operandCount]
  | h2 | h7 => cases y using bitVec3_cases <;> rfl
  | h4 | h5 | h6 => cases y using operandCode_cases <;> simp [decodeX0, Form.encode, Form.operandCount]

theorem encode_decodeX1 (y z : BitVec 3) (n1 n2 : Byte) :
    (decodeX1 y z).encode = joinXYZ 1 y z :: [n1, n2].take (decodeX1 y z).operandCount := by
  cases y using operandCode_cases with
  | reg dst => cases z using operandCode_cases <;> simp [decodeX1, Form.encode, Form.operandCount]
  | atHL =>
    cases z using operandCode_cases with
    | reg r => simp [decodeX1, Form.encode, Form.operandCount]
    | atHL => rfl

theorem encode_decodeX2 (y z : BitVec 3) (n1 n2 : Byte) :
    (decodeX2 y z).encode = joinXYZ 2 y z :: [n1, n2].take (decodeX2 y z).operandCount := by
  cases z using operandCode_cases <;> simp [decodeX2, Form.encode, Form.operandCount]

theorem encode_decodeX3 (y z : BitVec 3) (n1 n2 : Byte) :
    (decodeX3 y z n1 n2).encode = joinXYZ 3 y z :: [n1, n2].take (decodeX3 y z 0 0).operandCount := by
  cases z using bitVec3_cases with
  | h0 | h1 | h2 | h3 | h4 | h5 => cases y using bitVec3_cases <;> simp [decodeX3, Form.encode, Form.operandCount] <;> rfl
  | h6 | h7 => simp [decodeX3, Form.encode, Form.operandCount]

theorem encode_decodeBase (op n1 n2 : Byte) :
    (decodeBase op n1 n2).encode = op :: [n1, n2].take (operandBytes op) := by
  cases op using joinXYZ_cases with
  | x0 y z => simpa [operandBytes, decodeBase] using encode_decodeX0 y z n1 n2
  | x1 y z => simpa [operandBytes, decodeBase] using encode_decodeX1 y z n1 n2
  | x2 y z => simpa [operandBytes, decodeBase] using encode_decodeX2 y z n1 n2
  | x3 y z => simpa [operandBytes, decodeBase] using encode_decodeX3 y z n1 n2

/-- A list of at most two bytes is its two bytes, a missing one read as zero, cut to its length. -/
theorem take_length_getD {l : List Byte} (h : l.length ≤ 2) : [l.getD 0 0, l.getD 1 0].take l.length = l := by
  match l with
  | [] | [_] | [_, _] => rfl
  | _ :: _ :: _ :: _ => simp at h

theorem encode_baseForm {op : Byte} {operands : List Byte} (h : operands.length = operandBytes op) :
    (baseForm op operands).encode = op :: operands := by
  rw [baseForm, encode_decodeBase, ← h, take_length_getD (h ▸ operandBytes_le_two op)]

/-! ### Encoded, then decoded -/

/-- A family member of the base table is decoded from its own opcode and operand bytes. -/
theorem baseForm_encode {f : Form} {op : Byte} {operands : List Byte} (hf : ∀ x, f ≠ .ext x)
    (h : f.encode = op :: operands) : baseForm op operands = f := by
  cases f with
  | ext x => exact absurd rfl (hf x)
  | ldRegReg dst r => cases h; simp [baseForm, decodeBase, decodeX1]
  | ldRegHL r | ldHLReg r => cases h; simp [baseForm, decodeBase, decodeX1]
  | ldRegImm r n | incReg r | decReg r => cases h; simp [baseForm, decodeBase, decodeX0]
  | ldPairImm p w | addHLPair p | incPair p | decPair p => cases h; simp [baseForm, decodeBase, decodeX0]
  | aluReg k r | aluHL k => cases h; simp [baseForm, decodeBase, decodeX2]
  | aluImm k n | rst i => cases h; simp [baseForm, decodeBase, decodeX3]
  | push p | pop p => cases h; cases p <;> rfl
  | jrCond cc e | retCond cc => cases h; cases cc <;> rfl
  | jpCond cc w | callCond cc w => cases h; cases cc <;> exact congrArg _ (wordOf_hiByte_loByte w)
  | ldAAbs w | ldAbsA w | ldAbsSP w | jp w | call w => cases h; exact congrArg _ (wordOf_hiByte_loByte w)
  | illegal k => cases h; cases k <;> rfl
  | _ => cases h; rfl

theorem length_operands_of_encode {f : Form} {op : Byte} {operands : List Byte} (hf : ∀ x, f ≠ .ext x)
    (h : f.encode = op :: operands) : operands.length = operandBytes op := by
  have henc : f.encode = op :: [operands.getD 0 0, operands.getD 1 0].take (operandBytes op) := by
    rw [← encode_decodeBase, ← baseForm, baseForm_encode hf h]
  obtain ⟨-, ho⟩ := List.cons.inj (h.symm.trans henc)
  rw [ho, List.length_take]
  exact Nat.min_eq_left (operandBytes_le_two op)

/-! ## The decoder on byte lists (R73, R74) -/

theorem decode_prefixByte_cons (cb : Byte) (rest : List Byte) :
    decode (Config.prefixByte :: cb :: rest) = .ok ((Form.ext (decodeExt cb)).toInstr, rest) := rfl

theorem operandBytes_cases (op : Byte) : operandBytes op = 0 ∨ operandBytes op = 1 ∨ operandBytes op = 2 := by
  have := operandBytes_le_two op
  omega

/-- An opcode of the base table takes its operand bytes and leaves the others. -/
theorem decode_base {op : Byte} (hop : op ≠ Config.prefixByte) {tail : List Byte} (hlen : operandBytes op ≤ tail.length) :
    decode (op :: tail) =
      .ok ((baseForm op (tail.take (operandBytes op))).toInstr, tail.drop (operandBytes op)) := by
  obtain h | h | h := operandBytes_cases op <;> rw [h] at hlen ⊢
  · simp [decode, hop, h, baseForm]
  · match tail with
    | n1 :: _ => simp [decode, hop, h, baseForm]
  · match tail with
    | n1 :: n2 :: _ => simp [decode, hop, h, baseForm]

theorem decode_of_missing_operand {op : Byte} (hop : op ≠ Config.prefixByte) {tail : List Byte}
    (hlen : tail.length < operandBytes op) : decode (op :: tail) = .error (.missingOperand op) := by
  obtain h | h | h := operandBytes_cases op <;> rw [h] at hlen
  · cases hlen
  · match tail with
    | [] => simp [decode, hop, h]
  · match tail with
    | [] | [_] => simp [decode, hop, h]

/-! ## The round trips -/

/-- The byte 0xCB alone is the one family member that is no whole instruction (log entry 5). -/
theorem wellFormed_iff (i : Instr) : i.wellFormed = true ↔ i.form ≠ .prefixCB := by
  rw [Instr.wellFormed, decide_eq_true_iff]
  refine not_congr ⟨fun h => by rw [h]; rfl, fun h => ?_⟩
  rw [← instr_toInstr i, h]
  rfl

theorem decode_encode_ext (x : ExtForm) (rest : List Byte) :
    decode ((Form.ext x).encode ++ rest) = .ok ((Form.ext x).toInstr, rest) := by
  rw [Form.encode, List.cons_append, List.cons_append, List.nil_append, decode_prefixByte_cons, decodeExt_byte]

theorem decode_encode_base {f : Form} (hf : ∀ x, f ≠ .ext x) (hprefix : f ≠ .prefixCB) (rest : List Byte) :
    decode (f.encode ++ rest) = .ok (f.toInstr, rest) := by
  obtain ⟨op, operands, henc⟩ := List.exists_cons_of_ne_nil (encode_ne_nil f)
  have hform : baseForm op operands = f := baseForm_encode hf henc
  have hlen : operandBytes op = operands.length := (length_operands_of_encode hf henc).symm
  have hop : op ≠ Config.prefixByte := by
    rintro rfl
    exact hprefix (hform.symm.trans (baseForm_prefixByte operands))
  rw [henc, List.cons_append, decode_base hop (by simp [hlen]), hlen, List.take_left, List.drop_left, hform]

/-- Settles O46: an extended row by `decode_encode_ext`, a base row by `decode_encode_base`. -/
theorem decodeOfEncodeIsTheInstruction : Obligations.DecodeOfEncodeIsTheInstruction := by
  refine ⟨fun i rest hwf => ?_, rfl⟩
  have hrow : decode (i.form.encode ++ rest) = .ok (i.form.toInstr, rest) := by
    by_cases hx : ∃ x, i.form = .ext x
    · obtain ⟨x, hx⟩ := hx
      rw [hx, decode_encode_ext]
    · exact decode_encode_base (not_exists.mp hx) ((wellFormed_iff i).mp hwf) rest
  rwa [instr_toInstr] at hrow

/-- Settles O47, by the first byte and then by how many operand bytes stand after it. -/
theorem encodeOfDecodeIsTheBytes : Obligations.EncodeOfDecodeIsTheBytes := by
  intro bytes i rest h
  match bytes with
  | [] => cases h
  | op :: tail =>
    by_cases hop : op = Config.prefixByte
    · subst hop
      match tail with
      | [] => cases h; rfl
      | cb :: _ =>
        rw [decode_prefixByte_cons] at h
        cases h
        rw [encode_toInstr, Form.encode, byte_decodeExt, List.cons_append, List.cons_append, List.nil_append]
    · by_cases hlen : operandBytes op ≤ tail.length
      · rw [decode_base hop hlen] at h
        cases h
        rw [encode_toInstr, encode_baseForm (List.length_take_of_le hlen), List.cons_append, List.take_append_drop]
      · rw [decode_of_missing_operand hop (Nat.lt_of_not_le hlen)] at h
        cases h

theorem baseForm_ne_prefixCB {op : Byte} (hop : op ≠ Config.prefixByte) {operands : List Byte}
    (h : operands.length = operandBytes op) : baseForm op operands ≠ .prefixCB := by
  intro hf
  have henc := encode_baseForm h
  rw [hf] at henc
  exact hop (List.cons.inj henc).1.symm

/-- Three bytes are enough for any row, and never the byte 0xCB alone. -/
theorem decode_three_bytes (b0 b1 b2 : Byte) :
    ∃ f rest, f ≠ .prefixCB ∧ decode [b0, b1, b2] = .ok (Form.toInstr f, rest) := by
  by_cases hop : b0 = Config.prefixByte
  · subst hop
    exact ⟨_, _, Form.noConfusion, decode_prefixByte_cons b1 [b2]⟩
  · have hlen : operandBytes b0 ≤ [b1, b2].length := operandBytes_le_two b0
    exact ⟨_, _, baseForm_ne_prefixCB hop (List.length_take_of_le hlen), decode_base hop hlen⟩

/-- Settles O45: three bytes decode, and the lengths add up by O47. -/
theorem everyByteStreamHoldsAnInstruction : Obligations.EveryByteStreamHoldsAnInstruction := by
  intro b0 b1 b2
  obtain ⟨f, rest, hf, hd⟩ := decode_three_bytes b0 b1 b2
  have hsum : f.toInstr.length + rest.length = 3 := by
    rw [← length_encode, ← List.length_append, encodeOfDecodeIsTheBytes _ _ _ hd]
    rfl
  have hpos : 0 < f.toInstr.length := by
    rw [← length_encode]
    exact List.length_pos_of_ne_nil (encode_ne_nil _)
  exact ⟨_, rest, hd, (wellFormed_iff _).mpr (by rwa [form_toInstr]), hpos, by omega, by omega⟩

end Sys2Proof

/-! ## A row's bytes, cost and next state, by its family -/

namespace Sys2Proof.Machine

open Sys2Proof.Laws

/-- The bytes, cost and next state of a row, from the encoder, the cost table and the operation of the row's family. -/
theorem row_of_form {i : Instr} {f : Form} (hform : i.form = f) {s t : State} {bytes : List Byte} {cost : Nat}
    (hbytes : f.encode = bytes) (hcost : formCycles s f = cost) (heffect : effect f s = t) :
    encode i = bytes ∧ cycles i s = cost ∧ exec i s = .next t := by
  rw [encode, cycles, exec_eq_effect, hform, hbytes, hcost, heffect]
  exact ⟨rfl, rfl, rfl⟩

/-! ## The 8-bit loads (R100 to R118) -/

theorem copyReg_eq (dst r : Reg8) (s : State) : copyReg dst r s = s.setReg dst (s.reg r) := rfl

theorem loadReg_eq (r : Reg8) (v : Byte) (s : State) : loadReg r v s = s.setReg r v := rfl

theorem loadReg_a_eq (v : Byte) (s : State) : loadReg .a v s = { s with a := v } := rfl

theorem storeByte_eq (addr : Word) (v : Byte) (s : State) : storeByte addr v s = s.write addr v := rfl

theorem storeAIncHL_eq (s : State) :
    storeAIncHL s = { s.write s.hl s.a with h := hiByte (s.hl + 1), l := loByte (s.hl + 1) } := rfl

theorem loadAIncHL_eq (s : State) :
    loadAIncHL s = { s with a := s.read s.hl, h := hiByte (s.hl + 1), l := loByte (s.hl + 1) } := rfl

theorem storeADecHL_eq (s : State) :
    storeADecHL s = { s.write s.hl s.a with h := hiByte (s.hl - 1), l := loByte (s.hl - 1) } := rfl

theorem loadADecHL_eq (s : State) :
    loadADecHL s = { s with a := s.read s.hl, h := hiByte (s.hl - 1), l := loByte (s.hl - 1) } := rfl

/-- The sum with 0xFF00 does not wrap, so an LDH address is the byte 0xFF followed by the operand (R111 to R114). -/
theorem highAddr_eq_wordOf (n : Byte) : highAddr n = wordOf 0xFF#8 n := by
  have hn : n.toNat < 256 := n.isLt
  apply BitVec.eq_of_toNat_eq
  rw [toNat_wordOf, highAddr, Config.highPage, BitVec.toNat_add, BitVec.toNat_ofNat, BitVec.toNat_ofNat, BitVec.toNat_ofNat]
  omega

theorem loadHigh_eq (n : Byte) (s : State) :
    loadReg .a (s.read (highAddr n)) s = { s with a := s.read (wordOf 0xFF#8 n) } := by
  rw [loadReg_a_eq, highAddr_eq_wordOf]

theorem storeHigh_eq (n : Byte) (s : State) : storeByte (highAddr n) s.a s = s.write (wordOf 0xFF#8 n) s.a := by
  rw [storeByte_eq, highAddr_eq_wordOf]

/-- Settles O11: each family is one register write or one store. -/
theorem loadsOfARegisterAndStoresAtHL : Obligations.LoadsOfARegisterAndStoresAtHL := by
  intro s dst r n
  refine ⟨?copy, ?immediate, ?load, ?store, ?storeImmediate⟩
  case copy => exact row_of_form (form_toInstr (.ldRegReg dst r)) rfl rfl (copyReg_eq dst r s)
  case immediate => exact row_of_form (form_toInstr (.ldRegImm dst n)) rfl rfl (loadReg_eq dst n s)
  case load => exact row_of_form (form_toInstr (.ldRegHL dst)) rfl rfl (loadReg_eq dst (s.read s.hl) s)
  case store => exact row_of_form (form_toInstr (.ldHLReg r)) rfl rfl (storeByte_eq s.hl (s.reg r) s)
  case storeImmediate => exact row_of_form (f := .ldHLImm n) rfl rfl rfl (storeByte_eq s.hl n s)

/-- Settles O12: A takes the byte addressed or is stored there, the LDH forms on the page of `highAddr_eq_wordOf`. -/
theorem loadsAndStoresOfA : Obligations.LoadsAndStoresOfA := by
  intro s n addr
  refine ⟨?loadBC, ?loadDE, ?loadAbs, ?loadHighC, ?loadHighImm, ?storeBC, ?storeDE, ?storeAbs, ?storeHighC, ?storeHighImm⟩
  case loadBC => exact row_of_form (f := .ldABC) rfl rfl rfl (loadReg_a_eq (s.read (s.pair .bc)) s)
  case loadDE => exact row_of_form (f := .ldADE) rfl rfl rfl (loadReg_a_eq (s.read (s.pair .de)) s)
  case loadAbs => exact row_of_form (f := .ldAAbs addr) rfl rfl rfl (loadReg_a_eq (s.read addr) s)
  case loadHighC => exact row_of_form (f := .ldhAC) rfl rfl rfl (loadHigh_eq s.c s)
  case loadHighImm => exact row_of_form (f := .ldhAImm n) rfl rfl rfl (loadHigh_eq n s)
  case storeBC => exact row_of_form (f := .ldBCA) rfl rfl rfl (storeByte_eq (s.pair .bc) s.a s)
  case storeDE => exact row_of_form (f := .ldDEA) rfl rfl rfl (storeByte_eq (s.pair .de) s.a s)
  case storeAbs => exact row_of_form (f := .ldAbsA addr) rfl rfl rfl (storeByte_eq addr s.a s)
  case storeHighC => exact row_of_form (f := .ldhCA) rfl rfl rfl (storeHigh_eq s.c s)
  case storeHighImm => exact row_of_form (f := .ldhImmA n) rfl rfl rfl (storeHigh_eq n s)

/-- Settles O13, from what the four operations that step HL do. -/
theorem loadsAndStoresThatStepHL : Obligations.LoadsAndStoresThatStepHL := by
  intro s
  refine ⟨?storeInc, ?loadInc, ?storeDec, ?loadDec⟩
  case storeInc => exact row_of_form (f := .ldHLIncA) rfl rfl rfl (storeAIncHL_eq s)
  case loadInc => exact row_of_form (f := .ldAHLInc) rfl rfl rfl (loadAIncHL_eq s)
  case storeDec => exact row_of_form (f := .ldHLDecA) rfl rfl rfl (storeADecHL_eq s)
  case loadDec => exact row_of_form (f := .ldAHLDec) rfl rfl rfl (loadADecHL_eq s)

end Sys2Proof.Machine

/-! ## The 16-bit loads and `SP + e8` (R130 to R133, R173) -/

namespace Sys2Proof.Machine

open Sys2Proof.Laws Sys2Proof.Claims

/-- An opcode byte that carries `p` and `q` is the concatenation of its fields (R71). -/
theorem joinXYZ_joinPQ (x p : BitVec 2) (q : Bool) (z : BitVec 3) :
    joinXYZ x (joinPQ p q) z = x ++ p ++ BitVec.ofBool q ++ z := by revert x p q z; decide

theorem loadPair_eq (p : Pair) (w : Word) (s : State) : loadPair p w s = s.setPair p w := rfl

theorem storeSP_eq (addr : Word) (s : State) :
    storeSP addr s = (s.write addr (loByte s.sp)).write (addr + 1) (hiByte s.sp) := rfl

theorem copyHLToSP_eq (s : State) : copyHLToSP s = { s with sp := s.h ++ s.l } := rfl

/-- Both are the byte's own number below 128, and from 128 on the number with 0xFF for its high byte. -/
theorem sext16_eq_signExtend (e : Byte) : sext16 e = e.signExtend 16 := by
  have he : e.toNat < 256 := e.isLt
  apply BitVec.eq_of_toNat_eq
  rw [sext16, BitVec.toNat_ofNat, BitVec.toNat_signExtend, BitVec.msb_eq_decide]
  obtain hpos | hneg := Nat.lt_or_ge e.toNat 128
  · simp [hpos, Nat.not_le.mpr hpos]
  · simp [hneg, Nat.not_lt.mpr hneg]
    omega

theorem lowNibble_eq_mod (v : Byte) : lowNibble v = v.toNat % 16 := Nat.and_two_pow_sub_one_eq_mod v.toNat 4

/-- H and C are carries of the low nibbles and of the low bytes, read off as remainders. -/
theorem spOffsetFlags_eq_spFlags (sp : Word) (e : Byte) : spOffsetFlags sp e = spFlags sp e := by
  have hnibble : (sp &&& 0x000F#16).toNat = sp.toNat % 16 := Nat.and_two_pow_sub_one_eq_mod sp.toNat 4
  have hbyte : (sp &&& 0x00FF#16).toNat = sp.toNat % 256 := Nat.and_two_pow_sub_one_eq_mod sp.toNat 8
  rw [spOffsetFlags, hnibble, hbyte, lowNibble_eq_mod]
  rfl

theorem loadHLSPOffset_eq (e : Byte) (s : State) :
    loadHLSPOffset e s = { s with h := hiByte (s.sp + e.signExtend 16), l := loByte (s.sp + e.signExtend 16),
                                  flags := spFlags s.sp e } := by
  rw [loadHLSPOffset, State.setHL, sext16_eq_signExtend, spOffsetFlags_eq_spFlags]

theorem addSPOffset_eq (e : Byte) (s : State) :
    addSPOffset e s = { s with sp := s.sp + e.signExtend 16, flags := spFlags s.sp e } := by
  rw [addSPOffset, sext16_eq_signExtend, spOffsetFlags_eq_spFlags]

theorem encode_ldPairImm (p : Pair) (w : Word) :
    (Form.ldPairImm p w).encode = [0#2 ++ p.code ++ 0#1 ++ 1#3, loByte w, hiByte w] := by
  rw [Form.encode, joinXYZ_joinPQ]
  rfl

/-- Settles O14: the pair takes the word, SP is stored by its two bytes, and SP takes HL. -/
theorem sixteenBitLoads : Obligations.SixteenBitLoads := by
  intro s p w
  refine ⟨?loadPair, ?storeSP, ?copyHL⟩
  case loadPair => exact row_of_form (form_toInstr (.ldPairImm p w)) (encode_ldPairImm p w) rfl (loadPair_eq p w s)
  case storeSP => exact row_of_form (f := .ldAbsSP w) rfl rfl rfl (storeSP_eq w s)
  case copyHL => exact row_of_form (f := .ldSPHL) rfl rfl rfl (copyHLToSP_eq s)

/-- Settles O15: the displacement by `sext16_eq_signExtend`, the flags by `spOffsetFlags_eq_spFlags`. -/
theorem stackPointerPlusDisplacement : Obligations.StackPointerPlusDisplacement := by
  intro s e
  refine ⟨?intoHL, ?intoSP⟩
  case intoHL => exact row_of_form (f := .ldHLSPOff e) rfl rfl rfl (loadHLSPOffset_eq e s)
  case intoSP => exact row_of_form (f := .addSPOff e) rfl rfl rfl (addSPOffset_eq e s)

end Sys2Proof.Machine

/-! ## 8-bit arithmetic (R140 to R162, R189) -/

namespace Sys2Proof.Machine

open Sys2Proof.Laws Sys2Proof.Claims

theorem byte_ofNat_eq_zero_iff (k : Nat) : BitVec.ofNat 8 k = 0 ↔ k % 256 = 0 := by
  rw [← BitVec.toNat_inj, BitVec.toNat_ofNat]
  rfl

/-- A byte's low nibble, tested in the byte itself or as a number (R155, R157). -/
theorem and_0x0F_eq_iff (v w : Byte) : v &&& 0x0F#8 = w ↔ v.toNat % 16 = w.toNat := by
  rw [← lowNibble_eq_mod, lowNibble, BitVec.toNat_inj]

theorem byte_add_ofNat (a : Byte) (k : Nat) : a + BitVec.ofNat 8 k = BitVec.ofNat 8 (a.toNat + k) := by
  rw [BitVec.ofNat_add, BitVec.ofNat_toNat, BitVec.setWidth_eq]

theorem byte_sub_ofNat (a : Byte) {k : Nat} (hk : k ≤ 256) :
    a - BitVec.ofNat 8 k = BitVec.ofNat 8 (a.toNat + 256 - k) := by
  apply BitVec.eq_of_toNat_eq
  rw [BitVec.toNat_sub, BitVec.toNat_ofNat, BitVec.toNat_ofNat]
  omega

/-! ### ADD, ADC, SUB, SBC and CP -/

theorem addFlags_n (a v : Byte) (c : Bool) : (addFlags a v c).n = false := rfl

theorem subFlags_n (a v : Byte) (c : Bool) : (subFlags a v c).n = true := rfl

theorem add8_eq (a v : Byte) (c : Bool) : add8 a v c = (addResult a v c, addFlags a v c) := by
  simp only [add8, addResult, addFlags, lowNibble_eq_mod, byte_ofNat_eq_zero_iff, gt_iff_lt]

/-- The signed difference and the one kept positive by 512 are the same byte. -/
theorem byte_ofInt_sub_eq_subResult (a v : Byte) (c : Bool) :
    BitVec.ofInt 8 ((a.toNat : Int) - v.toNat - c.toNat) = subResult a v c := by
  have hv : v.toNat < 256 := v.isLt
  have hc : c.toNat ≤ 1 := c.toNat_le
  apply BitVec.eq_of_toNat_eq
  rw [subResult, BitVec.toNat_ofInt, BitVec.toNat_ofNat]
  omega

theorem natCast_sub_sub_neg_iff (a v c : Nat) : (a : Int) - v - c < 0 ↔ a < v + c := by omega

theorem sub8_eq (a v : Byte) (c : Bool) : sub8 a v c = (subResult a v c, subFlags a v c) := by
  simp only [sub8, byte_ofInt_sub_eq_subResult, natCast_sub_sub_neg_iff, lowNibble_eq_mod]
  simp only [subResult, subFlags, byte_ofNat_eq_zero_iff]

theorem addToA_eq (v : Byte) (s : State) :
    addToA v s = { s with a := addResult s.a v false, flags := addFlags s.a v false } := by
  rw [addToA, add8_eq]

theorem addCarryToA_eq (v : Byte) (s : State) :
    addCarryToA v s = { s with a := addResult s.a v s.flags.c, flags := addFlags s.a v s.flags.c } := by
  rw [addCarryToA, add8_eq]

theorem subFromA_eq (v : Byte) (s : State) :
    subFromA v s = { s with a := subResult s.a v false, flags := subFlags s.a v false } := by
  rw [subFromA, sub8_eq]

theorem subCarryFromA_eq (v : Byte) (s : State) :
    subCarryFromA v s = { s with a := subResult s.a v s.flags.c, flags := subFlags s.a v s.flags.c } := by
  rw [subCarryFromA, sub8_eq]

theorem compareA_eq (v : Byte) (s : State) : compareA v s = { s with flags := subFlags s.a v false } := by
  rw [compareA, sub8_eq]

/-- Settles O16: every operand form is `addToA_eq` or `addCarryToA_eq` on the operand's value. -/
theorem addAndAddWithCarry : Obligations.AddAndAddWithCarry := by
  intro s r n
  refine ⟨?addReg, ?addHL, ?addImm, ?adcReg, ?adcHL, ?adcImm⟩
  case addReg => exact row_of_form (form_toInstr (.aluReg .add r)) rfl rfl (addToA_eq (s.reg r) s)
  case addHL => exact row_of_form (f := .aluHL .add) rfl rfl rfl (addToA_eq (s.read s.hl) s)
  case addImm => exact row_of_form (f := .aluImm .add n) rfl rfl rfl (addToA_eq n s)
  case adcReg => exact row_of_form (form_toInstr (.aluReg .adc r)) rfl rfl (addCarryToA_eq (s.reg r) s)
  case adcHL => exact row_of_form (f := .aluHL .adc) rfl rfl rfl (addCarryToA_eq (s.read s.hl) s)
  case adcImm => exact row_of_form (f := .aluImm .adc n) rfl rfl rfl (addCarryToA_eq n s)

/-- Settles O17: as O16, with `subFromA_eq`, `subCarryFromA_eq` and `compareA_eq`. -/
theorem subtractAndCompare : Obligations.SubtractAndCompare := by
  intro s r n
  refine ⟨?subReg, ?subHL, ?subImm, ?sbcReg, ?sbcHL, ?sbcImm, ?cpReg, ?cpHL, ?cpImm⟩
  case subReg => exact row_of_form (form_toInstr (.aluReg .sub r)) rfl rfl (subFromA_eq (s.reg r) s)
  case subHL => exact row_of_form (f := .aluHL .sub) rfl rfl rfl (subFromA_eq (s.read s.hl) s)
  case subImm => exact row_of_form (f := .aluImm .sub n) rfl rfl rfl (subFromA_eq n s)
  case sbcReg => exact row_of_form (form_toInstr (.aluReg .sbc r)) rfl rfl (subCarryFromA_eq (s.reg r) s)
  case sbcHL => exact row_of_form (f := .aluHL .sbc) rfl rfl rfl (subCarryFromA_eq (s.read s.hl) s)
  case sbcImm => exact row_of_form (f := .aluImm .sbc n) rfl rfl rfl (subCarryFromA_eq n s)
  case cpReg => exact row_of_form (form_toInstr (.aluReg .cp r)) rfl rfl (compareA_eq (s.reg r) s)
  case cpHL => exact row_of_form (f := .aluHL .cp) rfl rfl rfl (compareA_eq (s.read s.hl) s)
  case cpImm => exact row_of_form (f := .aluImm .cp n) rfl rfl rfl (compareA_eq n s)

/-! ### INC and DEC -/

theorem byte_add_one_eq_zero_iff (v : Byte) : v + 1 = 0 ↔ v.toNat = 255 := by bv_omega

theorem byte_sub_one_eq_zero_iff (v : Byte) : v - 1 = 0 ↔ v.toNat = 1 := by bv_omega

theorem inc8_eq (v : Byte) (f : Flags) : inc8 v f = (v + 1, incFlags v f) := by
  simp only [inc8, incFlags, byte_add_one_eq_zero_iff, and_0x0F_eq_iff]
  rfl

theorem dec8_eq (v : Byte) (f : Flags) : dec8 v f = (v - 1, decFlags v f) := by
  simp only [dec8, decFlags, byte_sub_one_eq_zero_iff, and_0x0F_eq_iff]
  rfl

theorem incReg_eq (r : Reg8) (s : State) :
    incReg r s = { s.setReg r (s.reg r + 1) with flags := incFlags (s.reg r) s.flags } := by
  rw [incReg, inc8_eq]

theorem decReg_eq (r : Reg8) (s : State) :
    decReg r s = { s.setReg r (s.reg r - 1) with flags := decFlags (s.reg r) s.flags } := by
  rw [decReg, dec8_eq]

theorem incMem_eq (s : State) :
    incMem s = { s.write s.hl (s.read s.hl + 1) with flags := incFlags (s.read s.hl) s.flags } := by
  rw [incMem, inc8_eq]

theorem decMem_eq (s : State) :
    decMem s = { s.write s.hl (s.read s.hl - 1) with flags := decFlags (s.read s.hl) s.flags } := by
  rw [decMem, dec8_eq]

/-- Settles O19: the operand by one and the flags of its old value, in a register or at HL. -/
theorem incrementAndDecrementKeepCarry : Obligations.IncrementAndDecrementKeepCarry := by
  intro s r
  refine ⟨?incReg, ?incHL, ?decReg, ?decHL⟩
  case incReg => exact row_of_form (form_toInstr (.incReg r)) rfl rfl (incReg_eq r s)
  case incHL => exact row_of_form (f := .incHL) rfl rfl rfl (incMem_eq s)
  case decReg => exact row_of_form (form_toInstr (.decReg r)) rfl rfl (decReg_eq r s)
  case decHL => exact row_of_form (f := .decHL) rfl rfl rfl (decMem_eq s)

/-! ### DAA -/

/-- The two parts of the correction, added as bytes or as numbers. -/
theorem correction_parts_eq_ofNat (low high : Bool) :
    (if low then 0x06#8 else 0#8) + (if high then 0x60#8 else 0#8) =
      BitVec.ofNat 8 ((if low then 0x06 else 0) + (if high then 0x60 else 0)) := by
  cases low <;> cases high <;> rfl

theorem daaCorrection_le (a : Byte) (f : Flags) : daaCorrection a f ≤ 0x66 := by
  unfold daaCorrection
  split <;> split <;> decide

/-- The correction of R159 as the byte the model adds or subtracts. -/
theorem ofNat_daaCorrection (a : Byte) (f : Flags) :
    BitVec.ofNat 8 (daaCorrection a f) =
      (if f.h || (!f.n && decide (9 < lowNibble a)) then 0x06#8 else 0#8) + (if daaCarry a f then 0x60#8 else 0#8) := by
  rw [correction_parts_eq_ofNat, lowNibble_eq_mod]
  rfl

theorem daaResult_eq (a : Byte) (f : Flags) :
    daaResult a f =
      if f.n then a - BitVec.ofNat 8 (daaCorrection a f) else a + BitVec.ofNat 8 (daaCorrection a f) := by
  rw [byte_sub_ofNat a ((daaCorrection_le a f).trans (by decide)), byte_add_ofNat, ← apply_ite]
  rfl

/-- After a subtraction DAA tests the flags alone and keeps C, after an addition it tests A as well. -/
theorem daa8_eq (a : Byte) (f : Flags) :
    daa8 a f = (daaResult a f, ⟨decide (daaResult a f = 0#8), f.n, false, daaCarry a f⟩) := by
  rw [daaResult_eq, ofNat_daaCorrection]
  obtain ⟨z, n, h, c⟩ := f
  cases n with
  | true => simp [daa8, daaCarry]
  | false => simp [daa8, daaCarry]

theorem decimalAdjust_eq (s : State) :
    decimalAdjust s = { s with
      a := daaResult s.a s.flags,
      flags := ⟨decide (daaResult s.a s.flags = 0#8), s.flags.n, false, daaCarry s.a s.flags⟩ } := by
  rw [decimalAdjust, daa8_eq]

/-- Settles O20, from `decimalAdjust_eq`. The model's operation has the name `decimalAdjust`. -/
theorem decimalAdjust_row : Obligations.DecimalAdjust := fun s =>
  row_of_form (f := .daa) rfl rfl rfl (decimalAdjust_eq s)

theorem exec_daa_eq (s : State) :
    exec .daa s = .next { s with
      a := daaResult s.a s.flags,
      flags := ⟨decide (daaResult s.a s.flags = 0#8), s.flags.n, false, daaCarry s.a s.flags⟩ } := by
  obtain ⟨-, -, hexec⟩ := decimalAdjust_row s
  exact hexec

/-! ### Decimal arithmetic -/

theorem toNat_bcd {x : Nat} (hx : x < 100) : (bcd x).toNat = x / 10 * 16 + x % 10 := by
  rw [bcd, BitVec.toNat_ofNat]
  omega

section
variable {x y : Nat} (hx : x < 100) (hy : y < 100)
include hx hy

theorem toNat_addResult_bcd :
    (addResult (bcd x) (bcd y) false).toNat = ((x / 10 + y / 10) * 16 + (x % 10 + y % 10)) % 256 := by
  rw [addResult, BitVec.toNat_ofNat, toNat_bcd hx, toNat_bcd hy, Bool.toNat_false]
  omega

/-- H or a low nibble above 9 says that the low digits carry. -/
theorem lowTest_add_bcd :
    ((addFlags (bcd x) (bcd y) false).h || decide (9 < (addResult (bcd x) (bcd y) false).toNat % 16)) =
      decide (9 < x % 10 + y % 10) := by
  rw [addFlags, toNat_addResult_bcd hx hy, toNat_bcd hx, toNat_bcd hy, Bool.toNat_false, ← Bool.decide_or,
    decide_eq_decide]
  omega

/-- C or a sum above 0x99 says that the numbers carry. -/
theorem daaCarry_add_bcd :
    daaCarry (addResult (bcd x) (bcd y) false) (addFlags (bcd x) (bcd y) false) = decide (100 ≤ x + y) := by
  have hsum : 0x99 < (x / 10 + y / 10) * 16 + (x % 10 + y % 10) ↔ 100 ≤ x + y := by omega
  rw [daaCarry, toNat_addResult_bcd hx hy, addFlags, toNat_bcd hx, toNat_bcd hy, Bool.toNat_false, Bool.not_false,
    Bool.true_and, ← Bool.decide_or, decide_eq_decide]
  omega

theorem daaCorrection_add_bcd :
    daaCorrection (addResult (bcd x) (bcd y) false) (addFlags (bcd x) (bcd y) false) =
      (if 9 < x % 10 + y % 10 then 0x06 else 0) + (if 100 ≤ x + y then 0x60 else 0) := by
  rw [daaCorrection, daaCarry_add_bcd hx hy, addFlags_n, Bool.not_false, Bool.true_and, lowTest_add_bcd hx hy]
  simp only [decide_eq_true_iff]

/-- In each of the four cases of a carry out of the digits, the correction turns the sum's nibbles into decimal digits. -/
theorem daaResult_add_bcd :
    daaResult (addResult (bcd x) (bcd y) false) (addFlags (bcd x) (bcd y) false) = bcd ((x + y) % 100) := by
  apply BitVec.eq_of_toNat_eq
  rw [daaResult, daaCorrection_add_bcd hx hy, toNat_addResult_bcd hx hy, toNat_bcd (Nat.mod_lt _ (by decide)),
    BitVec.toNat_ofNat, addFlags_n, if_neg Bool.false_ne_true]
  split <;> split <;> omega

theorem toNat_subResult_bcd :
    (subResult (bcd x) (bcd y) false).toNat = (x / 10 * 16 + x % 10 + 256 - (y / 10 * 16 + y % 10)) % 256 := by
  rw [subResult, BitVec.toNat_ofNat, toNat_bcd hx, toNat_bcd hy, Bool.toNat_false]
  omega

/-- The order of packed BCD is the order of the numbers. -/
theorem daaCarry_sub_bcd :
    daaCarry (subResult (bcd x) (bcd y) false) (subFlags (bcd x) (bcd y) false) = decide (x < y) := by
  rw [daaCarry, subFlags, toNat_bcd hx, toNat_bcd hy, Bool.toNat_false, Bool.not_true, Bool.false_and, Bool.or_false,
    decide_eq_decide]
  omega

/-- H is the borrow of the low digits. -/
theorem subFlags_h_bcd : (subFlags (bcd x) (bcd y) false).h = decide (x % 10 < y % 10) := by
  rw [subFlags, toNat_bcd hx, toNat_bcd hy, Bool.toNat_false, decide_eq_decide]
  omega

theorem daaCorrection_sub_bcd :
    daaCorrection (subResult (bcd x) (bcd y) false) (subFlags (bcd x) (bcd y) false) =
      (if x % 10 < y % 10 then 0x06 else 0) + (if x < y then 0x60 else 0) := by
  rw [daaCorrection, daaCarry_sub_bcd hx hy, subFlags_h_bcd hx hy, subFlags_n, Bool.not_true, Bool.false_and, Bool.or_false]
  simp only [decide_eq_true_iff]

/-- In each of the cases of a borrow by the digits, the correction turns the difference's nibbles into decimal digits. -/
theorem daaResult_sub_bcd :
    daaResult (subResult (bcd x) (bcd y) false) (subFlags (bcd x) (bcd y) false) = bcd ((x + 100 - y) % 100) := by
  apply BitVec.eq_of_toNat_eq
  rw [daaResult, daaCorrection_sub_bcd hx hy, toNat_subResult_bcd hx hy, toNat_bcd (Nat.mod_lt _ (by decide)),
    BitVec.toNat_ofNat, subFlags_n, if_pos rfl]
  split <;> split <;> omega

end

/-- Settles O21: DAA's correction makes up for the six codes that a carry or borrow out of a digit skips. -/
theorem decimalAdjustGivesDecimalArithmetic : Obligations.DecimalAdjustGivesDecimalArithmetic := by
  intro s x y hx hy
  refine ⟨?sum, ?difference⟩
  case sum =>
    obtain ⟨-, -, ⟨-, -, hadd⟩, -⟩ := addAndAddWithCarry { s with a := bcd x } .a (bcd y)
    exact ⟨_, _, hadd, exec_daa_eq _, daaResult_add_bcd hx hy, daaCarry_add_bcd hx hy⟩
  case difference =>
    obtain ⟨-, -, ⟨-, -, hsub⟩, -⟩ := subtractAndCompare { s with a := bcd x } .a (bcd y)
    exact ⟨_, _, hsub, exec_daa_eq _, daaResult_sub_bcd hx hy, daaCarry_sub_bcd hx hy⟩

/-! ### SCF, CCF and CPL -/

theorem setCarry_eq (s : State) : setCarry s = { s with flags := ⟨s.flags.z, false, false, true⟩ } := rfl

theorem complementCarry_eq (s : State) :
    complementCarry s = { s with flags := ⟨s.flags.z, false, false, !s.flags.c⟩ } := by rw [complementCarry]

theorem xor_0xFF (v : Byte) : v ^^^ 0xFF#8 = ~~~v := BitVec.xor_allOnes

theorem complementA_eq (s : State) :
    complementA s = { s with a := ~~~s.a, flags := ⟨s.flags.z, true, true, s.flags.c⟩ } := by
  rw [complementA, xor_0xFF]

/-- Settles O22, from what the three operations do to A and the flags. -/
theorem carryFlagAndComplement : Obligations.CarryFlagAndComplement := by
  intro s
  refine ⟨?scf, ?ccf, ?cpl⟩
  case scf => exact row_of_form (f := .scf) rfl rfl rfl (setCarry_eq s)
  case ccf => exact row_of_form (f := .ccf) rfl rfl rfl (complementCarry_eq s)
  case cpl => exact row_of_form (f := .cpl) rfl rfl rfl (complementA_eq s)

end Sys2Proof.Machine

/-! ## 16-bit arithmetic (R170 to R172) -/

namespace Sys2Proof.Machine

open Sys2Proof.Laws

/-- The one byte of a row of table `x = 0` whose bits 5:4 name a pair (R71, R79). -/
theorem pairRow_bytes (p : Pair) (q : Bool) (z : BitVec 3) :
    [joinXYZ 0 (joinPQ p.code q) z] = [0#2 ++ p.code ++ BitVec.ofBool q ++ z] := by
  rw [joinXYZ_joinPQ]
  rfl

theorem toNat_and_0x0FFF (w : Word) : (w &&& 0x0FFF#16).toNat = w.toNat % 0x1000 :=
  Nat.and_two_pow_sub_one_eq_mod w.toNat 12

/-- H is the carry out of bit 11, read off as the sum of the remainders by `0x1000`. -/
theorem add16_eq (a v : Word) (f : Flags) :
    add16 a v f =
      (a + v, ⟨f.z, false, decide (0x0FFF < a.toNat % 0x1000 + v.toNat % 0x1000), decide (0xFFFF < a.toNat + v.toNat)⟩) := by
  rw [add16, toNat_and_0x0FFF, toNat_and_0x0FFF]

theorem addToHL_eq (v : Word) (s : State) :
    addToHL v s = { s with
      h := hiByte (s.hl + v), l := loByte (s.hl + v),
      flags := ⟨s.flags.z, false, decide (0x0FFF < s.hl.toNat % 0x1000 + v.toNat % 0x1000),
        decide (0xFFFF < s.hl.toNat + v.toNat)⟩ } := by
  rw [addToHL, add16_eq, State.setHL]

theorem incPair_eq (p : Pair) (s : State) : incPair p s = s.setPair p (s.pair p + 1) := rfl

theorem decPair_eq (p : Pair) (s : State) : decPair p s = s.setPair p (s.pair p - 1) := rfl

/-- Settles O23: the sum and its carries by `addToHL_eq`; INC and DEC only write the pair. -/
theorem sixteenBitArithmetic : Obligations.SixteenBitArithmetic := by
  intro s p
  refine ⟨?addHL, ?inc, ?dec⟩
  case addHL => exact row_of_form (form_toInstr (.addHLPair p)) (pairRow_bytes p true 1) rfl (addToHL_eq (s.pair p) s)
  case inc => exact row_of_form (form_toInstr (.incPair p)) (pairRow_bytes p false 3) rfl (incPair_eq p s)
  case dec => exact row_of_form (form_toInstr (.decPair p)) (pairRow_bytes p true 3) rfl (decPair_eq p s)

end Sys2Proof.Machine

/-! ## AND, XOR and OR (R180 to R188) and the single-bit operations (R190 to R195) -/

namespace Sys2Proof.Machine

open Sys2Proof.Laws

/-! ### AND, XOR and OR -/

theorem andA_eq (v : Byte) (s : State) :
    andA v s = { s with a := s.a &&& v, flags := ⟨decide (s.a &&& v = 0#8), false, true, false⟩ } := rfl

theorem xorA_eq (v : Byte) (s : State) :
    xorA v s = { s with a := s.a ^^^ v, flags := ⟨decide (s.a ^^^ v = 0#8), false, false, false⟩ } := rfl

theorem orA_eq (v : Byte) (s : State) :
    orA v s = { s with a := s.a ||| v, flags := ⟨decide (s.a ||| v = 0#8), false, false, false⟩ } := rfl

/-- Settles O18: every operand form is `andA_eq`, `xorA_eq` or `orA_eq` on the operand's value. -/
theorem logicOperations : Obligations.LogicOperations := by
  intro s r n
  refine ⟨?andReg, ?andHL, ?andImm, ?xorReg, ?xorHL, ?xorImm, ?orReg, ?orHL, ?orImm⟩
  case andReg => exact row_of_form (form_toInstr (.aluReg .and r)) rfl rfl (andA_eq (s.reg r) s)
  case andHL => exact row_of_form (f := .aluHL .and) rfl rfl rfl (andA_eq (s.read s.hl) s)
  case andImm => exact row_of_form (f := .aluImm .and n) rfl rfl rfl (andA_eq n s)
  case xorReg => exact row_of_form (form_toInstr (.aluReg .xor r)) rfl rfl (xorA_eq (s.reg r) s)
  case xorHL => exact row_of_form (f := .aluHL .xor) rfl rfl rfl (xorA_eq (s.read s.hl) s)
  case xorImm => exact row_of_form (f := .aluImm .xor n) rfl rfl rfl (xorA_eq n s)
  case orReg => exact row_of_form (form_toInstr (.aluReg .or r)) rfl rfl (orA_eq (s.reg r) s)
  case orHL => exact row_of_form (f := .aluHL .or) rfl rfl rfl (orA_eq (s.read s.hl) s)
  case orImm => exact row_of_form (f := .aluImm .or n) rfl rfl rfl (orA_eq n s)

/-! ### BIT, RES and SET -/

/-- An extended row has the prefix before its byte, and the cost and operation of its extended family. -/
theorem row_of_extForm {x : ExtForm} {s t : State} {cb : Byte} {cost : Nat} (hbyte : x.byte = cb)
    (hcost : extCycles x = cost) (heffect : extEffect x s = t) :
    encode (Form.ext x).toInstr = [0xCB, cb] ∧ cycles (Form.ext x).toInstr s = cost ∧
      exec (Form.ext x).toInstr s = .next t :=
  row_of_form (form_toInstr (.ext x)) (congrArg (fun b => [Config.prefixByte, b]) hbyte) hcost heffect

theorem indexCode_eq_ofNat (i : Index8) : indexCode i = BitVec.ofNat 3 i.val :=
  BitVec.eq_of_toNat_eq (Nat.mod_eq_of_lt i.isLt).symm

/-- The byte of an extended row whose bits 5:3 number a bit (R71, R85). -/
theorem joinXYZ_indexCode (x : BitVec 2) (i : Index8) (z : BitVec 3) :
    joinXYZ x (indexCode i) z = x ++ BitVec.ofNat 3 i.val ++ z := by
  rw [joinXYZ, indexCode_eq_ofNat]

theorem testBit_eq (i : Index8) (v : Byte) (s : State) :
    testBit i v s = { s with flags := ⟨!v.getLsbD i.val, false, true, s.flags.c⟩ } := rfl

theorem clearBitReg_eq (i : Index8) (r : Reg8) (s : State) :
    clearBitReg i r s = s.setReg r (s.reg r &&& ~~~(1#8 <<< i.val)) := rfl

theorem clearBitMem_eq (i : Index8) (s : State) :
    clearBitMem i s = s.write s.hl (s.read s.hl &&& ~~~(1#8 <<< i.val)) := rfl

theorem setBitReg_eq (i : Index8) (r : Reg8) (s : State) :
    setBitReg i r s = s.setReg r (s.reg r ||| 1#8 <<< i.val) := rfl

theorem setBitMem_eq (i : Index8) (s : State) :
    setBitMem i s = s.write s.hl (s.read s.hl ||| 1#8 <<< i.val) := rfl

/-- Settles O24: the byte by `joinXYZ_indexCode`; BIT sets the flags of the tested bit, RES and SET write through the mask. -/
theorem bitTestClearAndSet : Obligations.BitTestClearAndSet := by
  intro s i r
  refine ⟨?bitReg, ?bitHL, ?resReg, ?resHL, ?setReg, ?setHL⟩
  case bitReg => exact row_of_extForm (joinXYZ_indexCode 1 i r.code) rfl (testBit_eq i (s.reg r) s)
  case bitHL => exact row_of_extForm (joinXYZ_indexCode 1 i atHLCode) rfl (testBit_eq i (s.read s.hl) s)
  case resReg => exact row_of_extForm (joinXYZ_indexCode 2 i r.code) rfl (clearBitReg_eq i r s)
  case resHL => exact row_of_extForm (joinXYZ_indexCode 2 i atHLCode) rfl (clearBitMem_eq i s)
  case setReg => exact row_of_extForm (joinXYZ_indexCode 3 i r.code) rfl (setBitReg_eq i r s)
  case setHL => exact row_of_extForm (joinXYZ_indexCode 3 i atHLCode) rfl (setBitMem_eq i s)

end Sys2Proof.Machine

/-! ## Rotates and shifts (R200 to R219) -/

namespace Sys2Proof.Machine

open Sys2Proof.Laws Sys2Proof.Claims

/-! ### The bits of a carry and of a concatenation -/

theorem getLsbD_carryBit (c : Bool) (i : Nat) : (carryBit c).getLsbD i = (decide (i = 0) && c) := by
  cases c <;> simp [carryBit]

theorem getLsbD_append_ofBool (x : BitVec 7) (c : Bool) (i : Nat) :
    (x ++ BitVec.ofBool c : Byte).getLsbD i = if i = 0 then c else x.getLsbD (i - 1) :=
  BitVec.getLsbD_concat x c i

theorem getLsbD_ofBool_append (c : Bool) (x : BitVec 7) (i : Nat) :
    (BitVec.ofBool c ++ x : Byte).getLsbD i = if i = 7 then c else x.getLsbD i :=
  BitVec.getLsbD_cons c x i

theorem getLsbD_append_nibbles (hi lo : BitVec 4) (i : Nat) :
    (hi ++ lo : Byte).getLsbD i = if i < 4 then lo.getLsbD i else hi.getLsbD (i - 4) :=
  BitVec.getLsbD_append

/-! ### The eight functions as concatenations of bits -/

/-- A shift left whose bit 0 takes `c`. -/
theorem shiftLeft_or_carryBit (v : Byte) (c : Bool) :
    v <<< 1 ||| carryBit c = v.extractLsb' 0 7 ++ BitVec.ofBool c := by
  apply BitVec.eq_of_getLsbD_eq
  rintro (_ | i) hi
  · simp [getLsbD_append_ofBool, getLsbD_carryBit, -BitVec.getLsbD_eq_getElem]
  · simp [getLsbD_append_ofBool, getLsbD_carryBit, hi, Nat.lt_of_succ_lt_succ hi, -BitVec.getLsbD_eq_getElem]

/-- A shift right whose bit 7 takes `c`. -/
theorem ushiftRight_or_carryBit (v : Byte) (c : Bool) :
    v >>> 1 ||| carryBit c <<< 7 = BitVec.ofBool c ++ v.extractLsb' 1 7 := by
  apply BitVec.eq_of_getLsbD_eq
  intro i hi
  rw [getLsbD_ofBool_append]
  obtain h | rfl := Nat.lt_succ_iff_lt_or_eq.mp hi
  · simp [getLsbD_carryBit, h, h.ne, -BitVec.getLsbD_eq_getElem]
  · simp [getLsbD_carryBit, -BitVec.getLsbD_eq_getElem]

/-- The bit that RLC puts in at the bottom is the part of `BitVec.rotateLeft` that its left shift loses. -/
theorem carryBit_getLsbD_seven (v : Byte) : carryBit (v.getLsbD 7) = v >>> 7 := by
  apply BitVec.eq_of_getLsbD_eq
  rintro (_ | i) -
  · simp [getLsbD_carryBit, -BitVec.getLsbD_eq_getElem]
  · have hout : v.getLsbD (7 + (i + 1)) = false := BitVec.getLsbD_of_ge v _ (by omega)
    simp [getLsbD_carryBit, hout]

/-- The bit that RRC puts in at the top is the part of `BitVec.rotateRight` that its right shift loses. -/
theorem carryBit_getLsbD_zero_shiftLeft (v : Byte) : carryBit (v.getLsbD 0) <<< 7 = v <<< 7 := by
  apply BitVec.eq_of_getLsbD_eq
  intro i hi
  obtain h | rfl := Nat.lt_succ_iff_lt_or_eq.mp hi
  · simp [h, -BitVec.getLsbD_eq_getElem]
  · simp [getLsbD_carryBit, -BitVec.getLsbD_eq_getElem]

/-- SRA copies bit 7 into itself: the shift is the signed one. -/
theorem ushiftRight_or_bit_seven (v : Byte) : v >>> 1 ||| v &&& 0x80#8 = v.sshiftRight 1 := by
  rw [show 0x80#8 = BitVec.twoPow 8 7 from rfl]
  apply BitVec.eq_of_getLsbD_eq
  intro i hi
  obtain h | rfl := Nat.lt_succ_iff_lt_or_eq.mp hi
  · have hin : 1 + i < 8 := by omega
    simp [BitVec.getLsbD_sshiftRight, BitVec.getLsbD_twoPow, hi, hin, h.ne', -BitVec.getLsbD_eq_getElem]
  · simp [BitVec.getLsbD_sshiftRight, BitVec.msb_eq_getLsbD_last, -BitVec.getLsbD_eq_getElem]

theorem shiftLeft_four_or_ushiftRight_four (v : Byte) :
    v <<< 4 ||| v >>> 4 = v.extractLsb' 0 4 ++ v.extractLsb' 4 4 := by
  apply BitVec.eq_of_getLsbD_eq
  intro i hi
  rw [getLsbD_append_nibbles]
  obtain h | h := Nat.lt_or_ge i 4
  · simp [h, -BitVec.getLsbD_eq_getElem]
  · have hout : v.getLsbD (4 + i) = false := BitVec.getLsbD_of_ge v _ (by omega)
    have hin : i - 4 < 4 := by omega
    simp [h.not_gt, hi, hin, hout, -BitVec.getLsbD_eq_getElem]

theorem shiftLeft_one (v : Byte) : v <<< 1 = v.extractLsb' 0 7 ++ 0#1 := by
  rw [← BitVec.or_zero (x := v <<< 1)]
  exact shiftLeft_or_carryBit v false

theorem ushiftRight_one (v : Byte) : v >>> 1 = 0#1 ++ v.extractLsb' 1 7 := by
  rw [← BitVec.or_zero (x := v >>> 1)]
  exact ushiftRight_or_carryBit v false

theorem rotate8_eq (k : Rot) (v : Byte) (c : Bool) : rotate8 k v c = rotated k v c := by
  have hmsb : v.getLsbD 7 = v.msb := rfl
  cases k with
  | rlc => rw [rotate8, rlc8, carryBit_getLsbD_seven, hmsb]; rfl
  | rrc => rw [rotate8, rrc8, carryBit_getLsbD_zero_shiftLeft]; rfl
  | rl => rw [rotate8, rl8, shiftLeft_or_carryBit, hmsb, rotated]
  | rr => rw [rotate8, rr8, ushiftRight_or_carryBit, rotated]
  | sla => rw [rotate8, sla8, shiftLeft_one, hmsb, rotated]
  | sra => rw [rotate8, sra8, ushiftRight_or_bit_seven, rotated]
  | swap => rw [rotate8, swap8, shiftLeft_four_or_ushiftRight_four, rotated]
  | srl => rw [rotate8, srl8, ushiftRight_one, rotated]

/-! ### The three operand forms -/

theorem rotateA_eq (k : Rot) (s : State) :
    rotateA k s =
      { s with a := (rotated k s.a s.flags.c).1, flags := ⟨false, false, false, (rotated k s.a s.flags.c).2⟩ } := by
  rw [rotateA, rotate8_eq, accRotFlags]

theorem rotateReg_eq (k : Rot) (r : Reg8) (s : State) :
    rotateReg k r s =
      { s.setReg r (rotated k (s.reg r) s.flags.c).1 with flags := rotatedFlags k (s.reg r) s.flags.c } := by
  rw [rotateReg, rotate8_eq]
  rfl

theorem rotateMem_eq (k : Rot) (s : State) :
    rotateMem k s =
      { s.write s.hl (rotated k (s.read s.hl) s.flags.c).1 with flags := rotatedFlags k (s.read s.hl) s.flags.c } := by
  rw [rotateMem, rotate8_eq]
  rfl

/-- Settles O25: the four rows are `rotateA_eq` at their operation. -/
theorem accumulatorRotatesClearZ : Obligations.AccumulatorRotatesClearZ := by
  intro s
  refine ⟨?rlca, ?rrca, ?rla, ?rra⟩
  case rlca => exact row_of_form (f := .rlca) rfl rfl rfl (rotateA_eq .rlc s)
  case rrca => exact row_of_form (f := .rrca) rfl rfl rfl (rotateA_eq .rrc s)
  case rla => exact row_of_form (f := .rla) rfl rfl rfl (rotateA_eq .rl s)
  case rra => exact row_of_form (f := .rra) rfl rfl rfl (rotateA_eq .rr s)

/-- Settles O26, for every operation and register at once, by `rotateReg_eq`. -/
theorem registerRotatesAndShifts : Obligations.RegisterRotatesAndShifts :=
  fun s k r => row_of_extForm rfl rfl (rotateReg_eq k r s)

/-- Settles O27, for every operation at once, by `rotateMem_eq`: the flags are those of the result, written or not. -/
theorem memoryRotatesAndShifts : Obligations.MemoryRotatesAndShifts :=
  fun s k => row_of_extForm rfl rfl (rotateMem_eq k s)

end Sys2Proof.Machine

/-! ## Control flow (R230 to R240) -/

namespace Sys2Proof.Machine

open Sys2Proof.Laws Sys2Proof.Claims

/-! ### The jumps -/

/-- An opcode byte whose field `y` carries a condition is the concatenation of its fields (R71, R81). -/
theorem joinXYZ_condField (x : BitVec 2) (top : Bool) (cc : Cond) (z : BitVec 3) :
    joinXYZ x (condField top cc) z = x ++ BitVec.ofBool top ++ cc.code ++ z := by
  rw [joinXYZ, condField]
  exact congrArg (· ++ z) (BitVec.append_assoc' (x₁ := x) (x₂ := BitVec.ofBool top) (x₃ := cc.code))

theorem jump_eq (target : Word) (s : State) : jump target s = { s with pc := target } := rfl

/-- A jump that is not taken is a jump to where PC already is. -/
theorem jumpIf_eq (cc : Cond) (target : Word) (s : State) :
    jumpIf cc target s = { s with pc := if condHolds cc s.flags then target else s.pc } := by
  rw [jumpIf]
  split
  · exact jump_eq target s
  · rfl

theorem jumpRel_eq (e : Byte) (s : State) : jumpRel e s = { s with pc := s.pc + e.signExtend 16 } := by
  rw [jumpRel, sext16_eq_signExtend, jump_eq]

/-- A relative conditional jump is the conditional jump to the relative target. -/
theorem jumpRelIf_eq (cc : Cond) (e : Byte) (s : State) :
    jumpRelIf cc e s = { s with pc := if condHolds cc s.flags then s.pc + e.signExtend 16 else s.pc } := by
  rw [jumpRelIf, jumpRel_eq]
  exact jumpIf_eq cc (s.pc + e.signExtend 16) s

/-- Settles O28: the byte of a conditional row by `joinXYZ_condField`, the target of a relative one by `jumpRel_eq`. -/
theorem jumps : Obligations.Jumps := by
  intro s cc addr e
  refine ⟨?jp, ?jpCond, ?jpHL, ?jr, ?jrCond⟩
  case jp => exact row_of_form (f := .jp addr) rfl rfl rfl (jump_eq addr s)
  case jpCond =>
    exact row_of_form (form_toInstr (.jpCond cc addr)) (congrArg (· :: _) (joinXYZ_condField 3 false cc 2)) rfl
      (jumpIf_eq cc addr s)
  case jpHL => exact row_of_form (f := .jpHL) rfl rfl rfl (jump_eq s.hl s)
  case jr => exact row_of_form (f := .jr e) rfl rfl rfl (jumpRel_eq e s)
  case jrCond =>
    exact row_of_form (form_toInstr (.jrCond cc e)) (congrArg (· :: _) (joinXYZ_condField 0 true cc 0)) rfl
      (jumpRelIf_eq cc e s)

/-! ### The calls and the returns -/

theorem push16_eq_pushed (w : Word) (s : State) : push16 w s = pushed w s := push16_eq w s

theorem pop16_eq_stackTop (s : State) : pop16 s = (stackTop s, { s with sp := s.sp + 2 }) := pop16_eq s

theorem call_eq (target : Word) (s : State) : call target s = { pushed s.pc s with pc := target } := by
  rw [call, push16_eq_pushed, jump_eq]

theorem callIf_eq (cc : Cond) (target : Word) (s : State) :
    callIf cc target s = if condHolds cc s.flags then { pushed s.pc s with pc := target } else s := by
  rw [callIf, call_eq]

theorem restart_eq (y : Index8) (s : State) :
    restart y s = { pushed s.pc s with pc := BitVec.ofNat 16 (8 * y.val) } := by
  rw [restart, call_eq, restartTarget, Nat.mul_comm]

theorem ret_eq (s : State) : ret s = { s with pc := stackTop s, sp := s.sp + 2 } := by
  rw [ret, pop16_eq_stackTop, jump_eq]

theorem retIf_eq (cc : Cond) (s : State) :
    retIf cc s = if condHolds cc s.flags then { s with pc := stackTop s, sp := s.sp + 2 } else s := by
  rw [retIf, ret_eq]

/-- Settles O29: a call is `pushed` and a jump, a return is a jump to `stackTop`, and RETI is the trap return. -/
theorem callsAndReturns : Obligations.CallsAndReturns := by
  intro s cc addr y
  refine ⟨?call, ?callCond, ?rst, ?ret, ?retCond, ?reti⟩
  case call => exact row_of_form (f := .call addr) rfl rfl rfl (call_eq addr s)
  case callCond =>
    exact row_of_form (form_toInstr (.callCond cc addr)) (congrArg (· :: _) (joinXYZ_condField 3 false cc 4)) rfl
      (callIf_eq cc addr s)
  case rst =>
    exact row_of_form (form_toInstr (.rst y)) (congrArg ([·]) (joinXYZ_indexCode 3 y 7)) rfl (restart_eq y s)
  case ret => exact row_of_form (f := .ret) rfl rfl rfl (ret_eq s)
  case retCond =>
    exact row_of_form (form_toInstr (.retCond cc)) (congrArg ([·]) (joinXYZ_condField 3 false cc 0)) rfl (retIf_eq cc s)
  case reti => exact row_of_form (f := .reti) rfl rfl rfl (returnFromInterrupt_eq s)

end Sys2Proof.Machine

/-! ## The stack (R250 to R258) -/

namespace Sys2Proof.Machine

open Sys2Proof.Laws Sys2Proof.Claims

/-! ### Reading back what was pushed -/

/-- A write changes no region's bounds or permission bits, so the same addresses are backed before and after it. -/
theorem backed_write (s : State) (addr other : Word) (v : Byte) : backed (s.write addr v) other = backed s other := by
  rw [backed_eq_find, backed_eq_find, State.write_bus]
  induction s.bus with
  | nil => rfl
  | cons r bus ih =>
    rw [Bus.write_cons]
    cases hc : r.contains addr with
    | false => cases ho : r.contains other <;> simp [ho, ih]
    | true =>
      cases hw : r.writable with
      | false => rfl
      | true => cases ho : r.contains other <;> simp [ho, hw]

theorem State.read_write_of_backed {s : State} (hwf : s.wf = true) {addr : Word} (h : backed s addr = true) (v : Byte) :
    (s.write addr v).read addr = v := by
  rw [State.read_write_same hwf, if_pos h]

theorem State.read_write_of_ne (s : State) {addr other : Word} (h : other ≠ addr) (v : Byte) :
    (s.write addr v).read other = s.read other :=
  Bus.read_write_of_ne s.bus h v

theorem pop_push {s : State} (hwf : s.wf = true) (h : backed s (s.sp - 1) = true) (v : Byte) :
    pop (push v s) = (v, { push v s with sp := s.sp }) := by
  have hread : (push v s).read (s.sp - 1) = v := State.read_write_of_backed hwf h v
  have hsp : (push v s).sp = s.sp - 1 := rfl
  rw [pop_eq, hsp, hread, BitVec.sub_add_cancel]

section

variable {s : State} (hwf : s.wf = true) (hhi : backed s (s.sp - 1) = true) (hlo : backed s (s.sp - 2) = true)
include hwf hhi hlo

/-- The second store, at SP - 2, leaves the high byte at SP - 1 as it was stored. -/
theorem read16_push16 (w : Word) : (push16 w s).read16 (s.sp - 2) = w := by
  have hnext : s.sp - 2 + 1 = s.sp - 1 := by bv_omega
  have hne : s.sp - 1 ≠ s.sp - 2 := by bv_omega
  have hlow : (push16 w s).read (s.sp - 2) = loByte w := by
    rw [push16_eq]
    exact State.read_write_of_backed (State.wf_write hwf _ _) (by rwa [backed_write]) _
  have hhigh : (push16 w s).read (s.sp - 1) = hiByte w := by
    rw [push16_eq]
    exact (State.read_write_of_ne _ hne _).trans (State.read_write_of_backed hwf hhi _)
  rw [State.read16, hnext, hlow, hhigh, wordOf_hiByte_loByte]

theorem pop16_push16 (w : Word) : pop16 (push16 w s) = (w, { push16 w s with sp := s.sp }) := by
  have hsp : (push16 w s).sp = s.sp - 2 := by rw [push16_eq]
  have htop : stackTop (push16 w s) = w := by
    rw [stackTop, hsp]
    exact read16_push16 hwf hhi hlo w
  rw [pop16_eq_stackTop, htop, hsp, BitVec.sub_add_cancel]

/-- The pair pushed is popped into itself: SP is back, and of the push only its stores remain. -/
theorem popPair_pushPair (p : StackPair) : popPair p (pushPair p s) = { s with bus := (pushPair p s).bus } := by
  have hback : { pushPair p s with sp := s.sp } = { s with bus := (pushPair p s).bus } := by
    rw [pushPair, push16_frame]
  rw [popPair, pushPair, pop16_push16 hwf hhi hlo, ← pushPair, hback, State.setStackPair_with_bus,
    State.setStackPair_stackPair]

end

/-- Settles O30: the two 16-bit operations by `push16_eq_pushed` and `pop16_eq_stackTop`, the round trips by `pop_push` and
`pop16_push16`. -/
theorem stackPrimitives : Obligations.StackPrimitives := fun s v w =>
  ⟨push_eq v s, pop_eq s, rfl, push16_eq_pushed w s, rfl, pop16_eq_stackTop s, fun hwf hhi =>
    ⟨pop_push hwf hhi v, fun hlo => ⟨pop16_push16 hwf hhi hlo w, read16_push16 hwf hhi hlo w⟩⟩⟩

/-- Settles O32: PUSH and POP are `pushPair` and `popPair`. -/
theorem pushThenPopRestores : Obligations.PushThenPopRestores := fun s p hwf hhi hlo =>
  ⟨pushPair p s, popPair p (pushPair p s), exec_toInstr (.push p) s, exec_toInstr (.pop p) (pushPair p s),
    popPair_pushPair hwf hhi hlo p⟩

/-! ### PUSH and POP -/

/-- The one byte of a row of table `x = 3` whose bits 5:4 name a stack pair (R71, R80). -/
theorem stackPairRow_bytes (p : StackPair) (q : Bool) (z : BitVec 3) :
    [joinXYZ 3 (joinPQ p.code q) z] = [3#2 ++ p.code ++ BitVec.ofBool q ++ z] := by
  rw [joinXYZ_joinPQ]
  rfl

theorem pushPair_eq (p : StackPair) (s : State) : pushPair p s = pushed (s.stackPair p) s := push16_eq_pushed (s.stackPair p) s

theorem popPair_eq (p : StackPair) (s : State) :
    popPair p s = { s with sp := s.sp + 2 }.setStackPair p (wordOf (s.read (s.sp + 1)) (s.read s.sp)) := by
  rw [popPair, pop16_eq]

/-- Writing a pair given by its two bytes: each half takes its byte, F through its four flags (R12, R14). -/
theorem State.setStackPair_wordOf (s : State) (hi lo : Byte) :
    s.setStackPair .bc (wordOf hi lo) = { s with b := hi, c := lo } ∧
      s.setStackPair .de (wordOf hi lo) = { s with d := hi, e := lo } ∧
      s.setStackPair .hl (wordOf hi lo) = { s with h := hi, l := lo } ∧
      s.setStackPair .af (wordOf hi lo) = { s with a := hi, flags := Flags.ofByte lo } := by
  simp only [State.setStackPair, hiByte_wordOf, loByte_wordOf, and_self]

/-- POP writes its pair from the two bytes at SP, the low one first, and moves SP past them (R256). -/
theorem exec_pop {p : StackPair} {s t : State}
    (h : { s with sp := s.sp + 2 }.setStackPair p (wordOf (s.read (s.sp + 1)) (s.read s.sp)) = t) :
    exec (Form.pop p).toInstr s = .next t :=
  (exec_toInstr (.pop p) s).trans (congrArg _ ((popPair_eq p s).trans h))

/-- Settles O31: PUSH is `pushPair_eq`, and each POP gives the two bytes to the halves of its pair. -/
theorem pushAndPop : Obligations.PushAndPop := by
  intro s p
  obtain ⟨hbc, hde, hhl, haf⟩ :=
    State.setStackPair_wordOf { s with sp := s.sp + 2 } (s.read (s.sp + 1)) (s.read s.sp)
  refine ⟨?push, ?popRow, exec_pop (p := .bc) hbc, exec_pop (p := .de) hde, exec_pop (p := .hl) hhl,
    exec_pop (p := .af) haf⟩
  case push => exact row_of_form (form_toInstr (.push p)) (stackPairRow_bytes p false 5) rfl (pushPair_eq p s)
  case popRow => exact ⟨(encode_toInstr (.pop p)).trans (stackPairRow_bytes p false 1), cycles_toInstr (.pop p) s⟩

end Sys2Proof.Machine

/-! ## The instruction at PC is the one its bytes decode to (R72, R73) -/

namespace Sys2Proof.Machine

open Sys2Proof.Laws Sys2Proof.Claims

/-- What `fetchRest` reads after an opcode byte is what the decoder reads from the same three bytes. -/
theorem decode_three_bytes_eq_restOf (op b1 b2 : Byte) :
    decode [op, b1, b2] = .ok ((restOf op b1 b2).1, [b1, b2].drop (restOf op b1 b2).2) := by
  by_cases hop : op = Config.prefixByte
  · subst hop
    rfl
  · obtain h | h | h := operandBytes_cases op <;> simp [decode, restOf, hop, h]

theorem restOf_snd_le_two (op b1 b2 : Byte) : (restOf op b1 b2).2 ≤ 2 := by
  rw [restOf]
  split
  · simp
  · split <;> simp

/-- The bytes after the opcode are the instruction's length less one: the decoder neither drops nor invents a byte. -/
theorem length_restOf (op b1 b2 : Byte) : (restOf op b1 b2).1.length = (restOf op b1 b2).2 + 1 := by
  have hbytes := encodeOfDecodeIsTheBytes _ _ _ (decode_three_bytes_eq_restOf op b1 b2)
  have hsum := congrArg List.length hbytes
  simp only [List.length_append, length_encode, List.length_drop, List.length_cons, List.length_nil] at hsum
  have hle := restOf_snd_le_two op b1 b2
  omega

theorem State.decode_bytesAt_pc (s : State) :
    decode (bytesAt s s.pc 3) = .ok (s.fetched.1, (bytesAt s (s.pc + 1) 2).drop s.fetched.2) :=
  decode_three_bytes_eq_restOf _ _ _

theorem State.fetched_eq_of_decode {s : State} {i : Instr} {rest : List Byte}
    (h : decode (bytesAt s s.pc 3) = .ok (i, rest)) : s.fetched.1 = i := by
  rw [s.decode_bytesAt_pc] at h
  cases h
  rfl

/-- A running step's fetch leaves PC past the instruction's bytes and clears `ei_pending` (R303). -/
theorem State.afterFetch_eq (s : State) :
    s.afterFetch = { s with pc := s.pc + BitVec.ofNat 16 s.fetched.1.length, eiPending := false } := by
  have hpc : s.pc + 1 + BitVec.ofNat 16 s.fetched.2 = s.pc + BitVec.ofNat 16 s.fetched.1.length := by
    rw [State.fetched, length_restOf]
    exact word_add_one_add_ofNat s.pc _
  rw [State.afterFetch, hpc]

/-- The fetch of the bytes after the opcode moves PC by the instruction's length less one (R72). -/
theorem fetchRest_eq_length (op : Byte) (s : State) :
    fetchRest op s =
      ((restOf op (s.read s.pc) (s.read (s.pc + 1))).1,
        { s with pc := s.pc + BitVec.ofNat 16 ((restOf op (s.read s.pc) (s.read (s.pc + 1))).1.length - 1) }) := by
  rw [length_restOf, Nat.add_sub_cancel, fetchRest_eq]

/-! ## One step and the port `execute` (R303, R304) -/

/-- Settles O38: the decoded instruction is the fetched one, and `afterFetch_eq` gives the state it runs on. -/
theorem stepRunsTheDecodedInstruction : Obligations.StepRunsTheDecodedInstruction := by
  refine ⟨fun s hidle => ?idle, fun s i rest hm hd => ?running⟩
  case idle =>
    have hm : s.mode ≠ .running := by
      obtain h | h | h := hidle <;> simp [h]
    exact ⟨step_idle hm, stepCycles_idle hm⟩
  case running =>
    obtain rfl := State.fetched_eq_of_decode hd
    rw [← s.afterFetch_eq]
    refine ⟨_, exec_eq_effect _ _, ?_, stepCycles_running hm⟩
    rw [step_running hm, delayedEnable_eq]

/-- Settles O41: a step that does not run gives the state itself, and a running one the fetched instruction's effect. -/
theorem everyStepCompletes : Obligations.EveryStepCompletes := by
  intro s
  by_cases hm : s.mode = .running
  · exact ⟨_, step_running hm⟩
  · exact ⟨s, step_idle hm⟩

/-- Settles O57: `fetchRest` reads what the decoder reads, and PC moves by the length less one. -/
theorem executePortActsAsIfJustFetched : Obligations.ExecutePortActsAsIfJustFetched := by
  intro op s
  have hexec := execute_eq_effect op s
  refine ⟨_, _, _, decode_three_bytes_eq_restOf op _ _, ?exec, hexec, ?move, ?cost⟩
  case exec => rw [exec_eq_effect, fetchRest_eq_length]
  case move => rw [hostMove, hexec, nextState?]
  case cost => rw [executeCycles, fetchRest_eq_length]

/-! ## NOP, HALT, STOP, EI and DI (R260 to R264) -/

theorem effect_halt (s : State) : effect Instr.halt.form s = { s with mode := .halted } := rfl

theorem effect_stop (n : Byte) (s : State) : effect (Instr.stop n).form s = { s with mode := .stopped } := rfl

theorem effect_ei (s : State) : effect Instr.ei.form s = { s with eiPending := true } := rfl

theorem effect_di (s : State) : effect Instr.di.form s = { s with ime := false, eiPending := false } := rfl

/-- Settles O33: each of the five is its family's operation. -/
theorem systemInstructions : Obligations.SystemInstructions := by
  intro s n
  refine ⟨?nop, ?halt, ?stop, ?ei, ?di⟩
  case nop => exact row_of_form (f := .nop) rfl rfl rfl (effect_nop s)
  case halt => exact row_of_form (f := .halt) rfl rfl rfl (effect_halt s)
  case stop => exact row_of_form (f := .stop n) rfl rfl rfl (effect_stop n s)
  case ei => exact row_of_form (f := .ei) rfl rfl rfl (effect_ei s)
  case di => exact row_of_form (f := .di) rfl rfl rfl (effect_di s)

/-! ## The delayed effect of EI (R263, R264) -/

theorem restOf_ei (b1 b2 : Byte) : restOf 0xFB#8 b1 b2 = (.ei, 0) := rfl

theorem restOf_di (b1 b2 : Byte) : restOf 0xF3#8 b1 b2 = (.di, 0) := rfl

/-- Settles O40: the delayed enable of `step_running`, with the effect of EI, of any other instruction and of DI. -/
theorem enableTakesEffectAfterTheNext : Obligations.EnableTakesEffectAfterTheNext := by
  intro s hm
  refine ⟨fun hop => ?ei, fun hpending hop => ?other, fun hop => ?di⟩
  case ei =>
    have hfetched : s.fetched = (.ei, 0) := by rw [State.fetched, hop, restOf_ei]
    rw [step_running hm, delayedEnable_eq, hop, State.afterFetch, hfetched, effect_ei]
    simp
  case other =>
    refine ⟨_, step_running hm, ?_⟩
    rw [delayedEnable_eq, hpending, decide_eq_true hop, Bool.true_and, Bool.or_true]
  case di =>
    have hfetched : s.fetched = (.di, 0) := by rw [State.fetched, hop, restOf_di]
    refine ⟨_, step_running hm, ?_⟩
    rw [delayedEnable_eq, hop, hfetched, effect_di]
    simp

/-! ## The end of a run (R306) -/

theorem delayedEnable_of_not_pending (op : Byte) (s : State) : delayedEnable false op s = s := rfl

/-- A running step whose instruction does nothing but jump back to its own address changes nothing. -/
theorem step_eq_self_of_jump_back {s : State} (hm : s.mode = .running) (hei : s.eiPending = false)
    (h : effect s.fetched.1.form s.afterFetch = { s.afterFetch with pc := s.pc }) : step s = .next s := by
  have hback : { s.afterFetch with pc := s.pc } = s := by
    rw [State.afterFetch, ← hei]
  rw [step_running hm, h, hback, hei, delayedEnable_of_not_pending]

/-- `JR -2` goes back over its own two bytes (R233). -/
theorem effect_fetched_of_jr_back {s : State} (h : bytesAt s s.pc 2 = [0x18, 0xFE]) :
    effect s.fetched.1.form s.afterFetch = { s.afterFetch with pc := s.pc } := by
  obtain ⟨hop, he⟩ : s.read s.pc = 0x18 ∧ s.read (s.pc + 1) = 0xFE := by simpa [bytesAt] using h
  have hfetched : s.fetched = (.jr_e8 0xFE, 1) := by
    rw [State.fetched, hop, he]
    rfl
  have hpc : s.afterFetch.pc + (0xFE#8).signExtend 16 = s.pc := by
    rw [State.afterFetch, hfetched, BitVec.add_assoc, BitVec.add_assoc]
    exact BitVec.add_zero s.pc
  rw [hfetched]
  exact (jumpRel_eq 0xFE#8 s.afterFetch).trans (by rw [hpc])

/-- A `JP` to its own address goes there (R230). -/
theorem effect_fetched_of_jp_self {s : State} (h : bytesAt s s.pc 3 = [0xC3, loByte s.pc, hiByte s.pc]) :
    effect s.fetched.1.form s.afterFetch = { s.afterFetch with pc := s.pc } := by
  obtain ⟨hop, hlo, hhi⟩ :
      s.read s.pc = 0xC3 ∧ s.read (s.pc + 1) = loByte s.pc ∧ s.read (s.pc + 1 + 1) = hiByte s.pc := by
    simpa [bytesAt] using h
  have hfetched : s.fetched = (.jp_a16 (wordOf (hiByte s.pc) (loByte s.pc)), 2) := by
    rw [State.fetched, hop, hlo, hhi]
    rfl
  rw [hfetched, wordOf_hiByte_loByte]
  exact jump_eq s.pc s.afterFetch

theorem endOfRun_cases {s : State} (h : endOfRun s = true) :
    bytesAt s s.pc 2 = [0x18, 0xFE] ∨ bytesAt s s.pc 3 = [0xC3, loByte s.pc, hiByte s.pc] ∨ s.mode = .halted := by
  simp only [endOfRun, Bool.and_eq_true, Bool.or_eq_true, decide_eq_true_iff] at h
  obtain ⟨-, (hjr | hjp) | ⟨hhalted, -⟩⟩ := h
  · exact .inl hjr
  · exact .inr (.inl hjp)
  · exact .inr (.inr hhalted)

/-- Settles O42: one step changes nothing, since a running state at the end of a run is at a jump to itself. -/
theorem endOfRunIsStable : Obligations.EndOfRunIsStable := by
  intro s n hend hpending
  refine run_of_fixed ?_ n
  by_cases hm : s.mode = .running
  · obtain hjr | hjp | hhalted := endOfRun_cases hend
    · exact step_eq_self_of_jump_back hm (hpending hm) (effect_fetched_of_jr_back hjr)
    · exact step_eq_self_of_jump_back hm (hpending hm) (effect_fetched_of_jp_self hjp)
    · exact nomatch hm.symm.trans hhalted
  · exact step_idle hm

/-! ## Interrupts: entry, wake and return (R286, R287, R289) -/

/-- `interrupt(v)` is accepted in Running or Halted with IME set, and only there (R286). -/
theorem interrupt_eq_some {s : State} (h : (s.mode = .running ∨ s.mode = .halted) ∧ s.ime = true) (v : Word) :
    interrupt v s = some (enterInterrupt v s) := if_pos h

theorem interrupt_eq_none {s : State} (h : s.mode = .stopped ∨ s.mode = .locked ∨ s.ime = false) (v : Word) :
    interrupt v s = none := by
  refine if_neg ?_
  obtain h | h | h := h <;> simp [h]

/-- `wake()` is accepted in Halted or Stopped, and only there (R287). -/
theorem wake_eq_some {s : State} (h : s.mode = .halted ∨ s.mode = .stopped) :
    wake s = some { s with mode := .running } := if_pos h

theorem wake_eq_none {s : State} (h : s.mode = .running ∨ s.mode = .locked) : wake s = none := by
  refine if_neg ?_
  obtain h | h := h <;> simp [h]

/-- Settles O36: the two moves where they are enabled and where they are not. -/
theorem interruptEntryAndWake : Obligations.InterruptEntryAndWake := by
  intro s v
  refine ⟨fun h => ?accepted, fun h => interrupt_eq_none h v, rfl, wake_eq_some, wake_eq_none⟩
  case accepted => exact (interrupt_eq_some h v).trans (congrArg some (enterInterrupt_eq v s))

/-- Trap entry is the push of PC and moves of SP, PC and the control items. -/
theorem enterInterrupt_frame (v : Word) (s : State) :
    enterInterrupt v s =
      { s with bus := (push16 s.pc s).bus, sp := s.sp - 2, ime := false, eiPending := false, mode := .running, pc := v } := by
  rw [enterInterrupt_eq, push16_eq]
  rfl

theorem stackTop_enterInterrupt {s : State} (hwf : s.wf = true) (hhi : backed s (s.sp - 1) = true)
    (hlo : backed s (s.sp - 2) = true) (v : Word) : stackTop (enterInterrupt v s) = s.pc := by
  rw [enterInterrupt_frame]
  exact read16_push16 hwf hhi hlo s.pc

/-- Settles O37: RETI pops the PC that the trap entry pushed, and SP is back. -/
theorem interruptThenReturnResumes : Obligations.InterruptThenReturnResumes := by
  intro s v hwf hmode hime hhi hlo
  refine ⟨_, _, interrupt_eq_some ⟨hmode, hime⟩ v, exec_eq_effect .reti _, ?_⟩
  have hret := returnFromInterrupt_eq (enterInterrupt v s)
  rw [← stackTop, stackTop_enterInterrupt hwf hhi hlo v] at hret
  refine hret.trans ?_
  rw [enterInterrupt_frame, BitVec.sub_add_cancel]

/-! ## The illegal code points and the lock (R266, R280) -/

theorem setRegister_mode (id : ByteItem) (v : Byte) (s : State) : (setRegister id v s).mode = s.mode := by
  cases id with
  | reg r => exact s.setReg_mode r v
  | f | sp | pc => rfl

theorem setRegister16_mode (id : WordItem) (w : Word) (s : State) : (setRegister16 id w s).mode = s.mode := by
  cases id <;> rfl

theorem hostMove_keeps_locked {s t : State} {m : HostMove} (hm : s.mode = .locked) (h : hostMove m s = some t) :
    t.mode = .locked ∨ m = .reset ∨ ∃ op, m = .execute op := by
  cases m with
  | reset => exact .inr (.inl rfl)
  | execute op => exact .inr (.inr ⟨op, rfl⟩)
  | interrupt v => exact nomatch h.symm.trans (interrupt_eq_none (.inr (.inl hm)) v)
  | wake => exact nomatch h.symm.trans (wake_eq_none (.inr hm))
  | addRegion first last block =>
    obtain ⟨-, ht⟩ := Option.ite_none_right_eq_some.1 h
    cases ht
    exact .inl hm
  | setRegister id v =>
    cases h
    exact .inl ((setRegister_mode id v s).trans hm)
  | setRegister16 id w =>
    cases h
    exact .inl ((setRegister16_mode id w s).trans hm)
  | setReadable | setWritable | write | write16 | fetch | push | pop =>
    cases h
    exact .inl hm

/-- Settles O34: the rows by `raiseIllegalOpcode_eq`; a Locked Engine steps to itself, and the host's other moves keep the mode
or are not enabled. -/
theorem illegalOpcodesLock : Obligations.IllegalOpcodesLock := by
  refine ⟨fun s k => ?row, fun s hm => ⟨fun n => ?run, fun _ _ => hostMove_keeps_locked hm⟩⟩
  case row =>
    refine row_of_form (form_toInstr (.illegal k)) ?_ rfl (raiseIllegalOpcode_eq k s)
    cases k <;> rfl
  case run => exact run_of_fixed (step_idle (by rw [hm]; decide)) n

/-! ## `PREFIX CB` (R265) -/

/-- Settles O35: both ways run the extended form that `cb` selects, and the decoder selects it from the same byte. -/
theorem prefixRunsTheSelectedInstruction : Obligations.PrefixRunsTheSelectedInstruction := fun s =>
  ⟨rfl, decodeExt (s.read s.pc), _, decode_prefixByte_cons (s.read s.pc) [], (cycles_toInstr (.ext _) _).symm,
    exec_toInstr (.ext _) _, exec_eq_effect .prefix_CB s, exec_toInstr (.ext _) _⟩

/-! ## The invariant after construction (R301) -/

/-- Settles O56: there is no region yet. -/
theorem constructionMeetsTheInvariant : Obligations.ConstructionMeetsTheInvariant := Bus.wf_reset

end Sys2Proof.Machine
